-- ==== Sys2Proof/Word.lean ====
section
/-! DEFINITION. Word.lean: the value types that the manual treats as bits or as small fixed ranges. -/

namespace Sys2Proof

/-- One payload byte (section 11.1). -/
abbrev Byte := BitVec 8

/-- A 16-bit field, such as a zero count or a slot check (Table 11-3, Table 11-4). -/
abbrev Word16 := BitVec 16

/-- A station number 0 to 15 (section 0.7). -/
abbrev Station := Fin 16

/-- A destination field of 5 bits: 0 to 15 a station, 31 all stations (R167). -/
abbrev Dest := Fin 32

/-- A station set: station `s` is bit `s` (section 11.1). -/
abbrev StationSet := BitVec 16

/-- A mark set: mark `m` is bit `m` (section 11.1). -/
abbrev MarkSet := BitVec 32

/-- The 16 bytes of a step record as loaded (Table 1-1, Table 11-6). -/
abbrev StepBytes := Vector Byte 16

end Sys2Proof
end

