-- ==== Sys2Proof/Config.lean ====
section
/-! DEFINITION. Config.lean: the free values, constants without a body that no proof can see into. -/

namespace Sys2Proof

/-- FREE VALUE (log entry 39). A byte that neither the manual nor a command states: the levels of the input pins that no
event shows when a RESTART reads them. It is applied to a counter of State that the machine reads and advances. -/
opaque Config.freeByte : Nat → Byte

end Sys2Proof
end

