-- ==== Sys2Proof/Syntax.lean ====
section
/-! DEFINITION. Syntax.lean: the commands of the block, one constructor of `Instr` per row of spec/opcode_table.json. -/

namespace Sys2Proof

/-- The strap pins (section 0.3): ST[3:0], STP (true is high), BG[2:0] and HR[1:0]. -/
structure Straps where
  station : Station
  parity  : Bool
  budget  : Fin 8
  rating  : Fin 4
deriving DecidableEq, Repr

/-- The levels of the input pins (section 0.6); true is high: seated, closed, locked. -/
structure PinLevels where
  bowlSeated : Bool
  lidClosed  : Bool
  lidLocked  : Bool
  wgt        : Bool
  base       : Bool
  food       : Bool
  tach       : Bool
deriving DecidableEq, Repr

/-- The four frequency inputs (Table 8-2). -/
inductive Channel
  | wgt
  | base
  | food
  | tach
deriving DecidableEq, Repr

/-- How a received frame that failed this station's checks ended (R170, R173). -/
inductive BadVerdict
  /-- the station could not place the verdict cells -/
  | unplaced
  /-- the verdict cells as read: TAKEN long, SPOIL long -/
  | read (taken spoil : Bool)
deriving DecidableEq, Repr

/-- The bytes of a START after its code (Table 11-4). -/
structure StartArgs where
  tag   : Byte
  mask  : StationSet
  slots : BitVec 32
deriving DecidableEq, Repr

/-- The commands: one constructor per row of spec/opcode_table.json, in the table's order. A row that names an event
inside one operation (a second boundary, a stall, an end of a phase) is that operation in the case the row names.
Frame rows carry the source, the destination field and the payload bytes the part reads (R179); an `Option` operand
is absent when the payload ends before the bytes it stands for. -/
inductive Instr
  /-- RESET: the straps and the input pins at the release of RESET_N (R166). -/
  | reset (straps : Straps) (pins : PinLevels)
  /-- GATE_END: the raw LID_CLOSED level at the gate end (R143). -/
  | gateEnd (lidClosed : Bool)
  /-- SECOND_BOUNDARY: the gate end at which the boundary count reaches 5 (R144). -/
  | secondBoundary (lidClosed : Bool)
  /-- DEBOUNCED_STATE_CHANGE: a gate end at which a debounced state changes (R150). -/
  | debouncedStateChange (lidClosed : Bool)
  /-- RANGE_CONDITION_CHANGE: a gate end at which a range condition changes (R147). -/
  | rangeConditionChange (lidClosed : Bool)
  /-- HEATER_SAMPLE_SET (R104). -/
  | heaterSampleSet
  /-- STIRRER_SAMPLE_SET (R124). -/
  | stirrerSampleSet
  /-- SCALE_SAMPLE_SET (R132). -/
  | scaleSampleSet
  /-- ENGINE_SAMPLE_SET (R31). -/
  | engineSampleSet
  /-- BURST_SLOT_END (R106). -/
  | burstSlotEnd
  /-- RAW_BOWL_OPEN_HEATER: the raw input opens, seen by the heater (R107). -/
  | rawBowlOpenHeater
  /-- RAW_BOWL_OPEN_STIRRER: the raw input opens, seen by the stirrer (R127). -/
  | rawBowlOpenStirrer
  /-- RAW_BOWL_SEATED (R127). -/
  | rawBowlSeated
  /-- LOCK_SENSED: the raw LID_LOCKED input changes to locked (R121). -/
  | lockSensed
  /-- LOCK_DROPPED: the raw LID_LOCKED input changes to not locked (R127). -/
  | lockDropped
  /-- LOCK_TIMER_EXPIRY (R121). -/
  | lockTimerExpiry
  /-- SPINUP_TIMER_EXPIRY (R124). -/
  | spinupTimerExpiry
  /-- STALL: the stirrer's sample set at which the stall count reaches 10 (R125). -/
  | stall
  /-- STOPPING_END: the stirrer's sample set at which the zero count reaches 3 in STOPPING (R122). -/
  | stoppingEnd
  /-- LOCK_RELEASE: the stirrer's sample set at which the release count reaches 5 (R123). -/
  | lockRelease
  /-- INTERVAL_PHASE_END: the stirrer's second boundary that ends a phase (R126). -/
  | intervalPhaseEnd
  /-- ECONOMY: the heater's second boundary at which the economy count reaches 30 (R109). -/
  | economy
  /-- DURATION_END: the engine's sample set that ends a TIME or TEMP step (R32). -/
  | durationEnd
  /-- HOLD_ABOVE_REACHED: the engine's boundary that ends a HOLD_ABOVE step (R37). -/
  | holdAboveReached
  /-- DIP_RESET: the engine's boundary at which the dip count reaches 11 (R37). -/
  | dipReset
  /-- TIMEOUT: the engine's boundary at which the step's timeout falls due (R39). -/
  | timeout
  /-- BOWL_REPORT: the engine takes the report BOWL (R82). -/
  | bowlReport
  /-- PROBE_REPORT: the engine takes the FOOD range report (R84). -/
  | probeReport
  /-- SCALE_REPORT: the engine takes the WGT range report (R84). -/
  | scaleReport
  /-- OVERWEIGHT: the engine takes the scale's overweight report (R138). -/
  | overweight
  /-- SENSOR: the engine takes the BASE range report (R94). -/
  | sensor
  /-- OVERTEMP: the engine takes the heater's over-temperature report (R112). -/
  | overtemp
  /-- LID_REPORT: the engine takes the stirrer's LID report (R81). -/
  | lidReport
  /-- STALL_REPORT: the engine takes the stirrer's STALL report (R81). -/
  | stallReport
  /-- LID_SENSE: the engine takes the stirrer's LID_SENSE report (R128). -/
  | lidSense
  /-- ADD_SATISFIED: the engine takes the scale's report (R35). -/
  | addSatisfied
  /-- LOST_POWER: the engine takes the share unit's report (R83). -/
  | lostPower
  /-- BUDGET_MISMATCH: the engine takes the share unit's report (R60). -/
  | budgetMismatch
  /-- BARRED: the engine takes the line controller's report (R178). -/
  | barred
  /-- WANT_CHANGE: the share unit takes the heater's new want (R69). -/
  | wantChange
  /-- USABLE_UNITS: the heater takes the share unit's new usable units (R107). -/
  | usableUnits
  /-- CLAIM_REVIEW_TIMER (R66). -/
  | claimReviewTimer
  /-- SILENCE_TIMER: the silence timer of a peer's row expires (R61). -/
  | silenceTimer (peer : Station)
  /-- TABLE_READY (R75). -/
  | tableReady
  /-- OFFER: the line becomes idle; the arbitration field, if any, of the lowest other frame whose start cell begins
  in the same cell (R168). -/
  | offer (rival : Option Byte)
  /-- ECHO_FAULT (R169). -/
  | echoFault
  /-- OWN_FRAME_TAKEN (R171). -/
  | ownFrameTaken
  /-- OWN_FRAME_DROPPED (R171). -/
  | ownFrameDropped
  /-- FRAME_FOUND_BAD: a received frame fails this station's checks (R173). -/
  | frameFoundBad (verdict : BadVerdict)
  /-- FRAME_SPOILED: a received frame checked good is not taken (R171). -/
  | frameSpoiled
  /-- OWN_SILENCE (R175); whether a peer's frame is under reception at that moment (R166), none where it is not said. -/
  | ownSilence (receiving : Bool := false)
  /-- PRESENCE_TIMER (R174). -/
  | presenceTimer
  /-- LISTEN_WINDOW: the window timer runs out (R176). -/
  | listenWindow
  /-- QUIET_TIMER (R177). -/
  | quietTimer
  /-- LINE_FAULT: the received bad frame at which the spoil count reaches 8 (R177), with how its verdict read (R170); one
  whose SPOIL this station alone made long where it is not said. -/
  | lineFault (verdict : BadVerdict := .read false true)
  /-- CLAIM: requested grant and want (R54, Table 11-3). -/
  | claim (src : Station) (dst : Dest) (requested want : Byte)
  /-- EVICT: the evicted stations (R57, Table 11-3). -/
  | evict (src : Station) (dst : Dest) (mask : StationSet)
  /-- PRESENCE: bytes 0 to 3, and the run tag and mark set of bytes 4 to 8 when the payload holds them
  (R59, R155, Table 11-5). -/
  | presence (src : Station) (dst : Dest) (states codes grant want : Byte) (marks : Option (Byte × MarkSet))
  /-- PRESENCE_MARKS: the mark board handles a PRESENCE that was taken (R155). -/
  | presenceMarks
  /-- MARK: run tag and mark set (R154, Table 11-3). -/
  | mark (src : Station) (dst : Dest) (tag : Byte) (marks : MarkSet)
  /-- SETUP: zero count, counts per kg, probe present (R181, Table 11-3). -/
  | setup (src : Station) (dst : Dest) (zero cpk : Word16) (probe : Byte)
  /-- STEP_LOAD: slot, index, step record (R10, Table 11-3). -/
  | stepLoad (src : Station) (dst : Dest) (slot index : Byte) (record : StepBytes)
  /-- OTHER_KIND_TAKEN: a REPLY or a frame of kind 9 to 15 (R53, R171). -/
  | otherKindTaken (src : Station) (dst : Dest) (kind : Fin 16)
  /-- START (R26, Table 11-4). -/
  | start (src : Station) (dst : Dest) (args : Option StartArgs)
  /-- PAUSE (R80). -/
  | pause (src : Station) (dst : Dest)
  /-- RESUME (R90). -/
  | resume (src : Station) (dst : Dest)
  /-- ABORT (R44). -/
  | abort (src : Station) (dst : Dest)
  /-- SKIP (R43). -/
  | skip (src : Station) (dst : Dest)
  /-- CONFIRM (R38). -/
  | confirm (src : Station) (dst : Dest)
  /-- CLEAR (R97). -/
  | clear (src : Station) (dst : Dest)
  /-- TARE (R139). -/
  | tare (src : Station) (dst : Dest)
  /-- OPEN_SLOT: slot and step count (R3). -/
  | openSlot (src : Station) (dst : Dest) (args : Option (Byte × Byte))
  /-- CLOSE_SLOT: slot and check (R11). -/
  | closeSlot (src : Station) (dst : Dest) (args : Option (Byte × Word16))
  /-- RESTART (R186). -/
  | restart (src : Station) (dst : Dest)
  /-- UNKNOWN_COMMAND: a COMMAND whose code is not in Table 11-4 (R183). -/
  | unknownCommand (src : Station) (dst : Dest) (code : Byte)
  /-- STATUS query; its index byte is ignored (R20, Table 11-8). -/
  | status (src : Station) (dst : Dest)
  /-- SAMPLE query; its index byte is ignored (R152). -/
  | sample (src : Station) (dst : Dest)
  /-- ROW query (R78). -/
  | row (src : Station) (dst : Dest) (index : Byte)
  /-- SLOT query (R18). -/
  | slot (src : Station) (dst : Dest) (index : Byte)
  /-- STEP query: slot in bits 7 to 6, index in bits 4 to 0 (R18). -/
  | step (src : Station) (dst : Dest) (index : Byte)
  /-- JOURNAL query (R164). -/
  | journal (src : Station) (dst : Dest) (index : Byte)
  /-- MARKS query (R159). -/
  | marks (src : Station) (dst : Dest) (index : Byte)
  /-- UNKNOWN_ITEM: a QUERY whose item code is not in Table 11-8 (R184). -/
  | unknownItem (src : Station) (dst : Dest) (item index : Byte)
  /-- FILTERED_LEVEL_CHANGE: the new level of a frequency input after its filter (R142). -/
  | filteredLevelChange (channel : Channel) (level : Bool)
  /-- RESET_ASSERTED: RESET_N is taken low; the straps as sampled (R115). -/
  | resetAsserted (straps : Straps)
deriving DecidableEq, Repr

end Sys2Proof
end

