-- ==== Sys2Proof/WellFormed.lean ====
section
/-! DEFINITION. WellFormed.lean: which commands can come from the line; operand ranges are in the operands' types. -/

namespace Sys2Proof

/-- A command is well formed when its operands are ones its row can have: OTHER_KIND_TAKEN carries a kind that is
handed to no block (7 or 9 to 15, R171); UNKNOWN_COMMAND a code outside Table 11-4; UNKNOWN_ITEM an item code outside
Table 11-8. Every other operand is in range by its type: requests carry raw bytes, whose ranges the part checks. -/
def Instr.wellFormed : Instr → Bool
  | .reset _ _ => true
  | .gateEnd _ => true
  | .secondBoundary _ => true
  | .debouncedStateChange _ => true
  | .rangeConditionChange _ => true
  | .heaterSampleSet => true
  | .stirrerSampleSet => true
  | .scaleSampleSet => true
  | .engineSampleSet => true
  | .burstSlotEnd => true
  | .rawBowlOpenHeater => true
  | .rawBowlOpenStirrer => true
  | .rawBowlSeated => true
  | .lockSensed => true
  | .lockDropped => true
  | .lockTimerExpiry => true
  | .spinupTimerExpiry => true
  | .stall => true
  | .stoppingEnd => true
  | .lockRelease => true
  | .intervalPhaseEnd => true
  | .economy => true
  | .durationEnd => true
  | .holdAboveReached => true
  | .dipReset => true
  | .timeout => true
  | .bowlReport => true
  | .probeReport => true
  | .scaleReport => true
  | .overweight => true
  | .sensor => true
  | .overtemp => true
  | .lidReport => true
  | .stallReport => true
  | .lidSense => true
  | .addSatisfied => true
  | .lostPower => true
  | .budgetMismatch => true
  | .barred => true
  | .wantChange => true
  | .usableUnits => true
  | .claimReviewTimer => true
  | .silenceTimer _ => true
  | .tableReady => true
  | .offer _ => true
  | .echoFault => true
  | .ownFrameTaken => true
  | .ownFrameDropped => true
  | .frameFoundBad _ => true
  | .frameSpoiled => true
  | .ownSilence _ => true
  | .presenceTimer => true
  | .listenWindow => true
  | .quietTimer => true
  | .lineFault _ => true
  | .claim _ _ _ _ => true
  | .evict _ _ _ => true
  | .presence _ _ _ _ _ _ _ => true
  | .presenceMarks => true
  | .mark _ _ _ _ => true
  | .setup _ _ _ _ _ => true
  | .stepLoad _ _ _ _ _ => true
  | .otherKindTaken _ _ kind => kind.val = 7 || decide (9 ≤ kind.val)
  | .start _ _ _ => true
  | .pause _ _ => true
  | .resume _ _ => true
  | .abort _ _ => true
  | .skip _ _ => true
  | .confirm _ _ => true
  | .clear _ _ => true
  | .tare _ _ => true
  | .openSlot _ _ _ => true
  | .closeSlot _ _ _ => true
  | .restart _ _ => true
  | .unknownCommand _ _ code => code.toNat = 0 || decide (12 ≤ code.toNat)
  | .status _ _ => true
  | .sample _ _ => true
  | .row _ _ _ => true
  | .slot _ _ _ => true
  | .step _ _ _ => true
  | .journal _ _ _ => true
  | .marks _ _ _ => true
  | .unknownItem _ _ item _ => item.toNat = 0 || decide (8 ≤ item.toNat)
  | .filteredLevelChange _ _ => true
  | .resetAsserted _ => true

end Sys2Proof
end

