-- ==== Sys2Proof/Decode.lean ====
section
/-! DEFINITION. Decode.lean: commands from words (no row of the table has bits), and commands from the cells of the
Hearth Line: pulses, frame layout, CRC, the receiver's checks, what a sender reads back, and the frame each frame command
stands for. -/

namespace Sys2Proof

/-- The command a word spells by the opcode table's bits. No row of the table gives bits, so no word spells one. -/
def decodeTableWord (_nbits _w : Nat) : Option Instr := none

/-! ## Bits and bytes -/

/-- The `width` low bits of `n`, most significant first (section 11.1). -/
def natBits : Nat → Nat → List Bool
  | 0, _ => []
  | width + 1, n => n.testBit width :: natBits width n

/-- The number that a list of bits spells, most significant first. -/
def bitsNat (bits : List Bool) : Nat := bits.foldl (fun n b => 2 * n + b.toNat) 0

/-- The bits of a payload, byte by byte. -/
def payloadBits (payload : List Byte) : List Bool := payload.flatMap fun b => natBits 8 b.toNat

/-- The first `n` bytes that a list of bits spells. -/
def bitsBytes : Nat → List Bool → List Byte
  | 0, _ => []
  | n + 1, bits => BitVec.ofNat 8 (bitsNat (bits.take 8)) :: bitsBytes n (bits.drop 8)

/-- The big-endian 16-bit value of two bytes (section 11.1). -/
def joinBytes (hi lo : Byte) : Word16 := hi ++ lo

/-- The high byte of a 16-bit value. -/
def hiByte (w : Word16) : Byte := w.extractLsb' 8 8

/-- The low byte of a 16-bit value. -/
def loByte (w : Word16) : Byte := w.extractLsb' 0 8

/-- The four bytes of a 32-bit value, most significant first. -/
def bytes32 (w : BitVec 32) : List Byte :=
  [w.extractLsb' 24 8, w.extractLsb' 16 8, w.extractLsb' 8 8, w.extractLsb' 0 8]

/-- The big-endian 32-bit value of four bytes. -/
def join32 (a b c d : Byte) : BitVec 32 := a ++ b ++ c ++ d

/-! ## The frame (R167) -/

/-- The header fields and the payload of a frame (Table 11-1). -/
structure WireFrame where
  kind    : Fin 16
  src     : Station
  dst     : Dest
  payload : List Byte
deriving DecidableEq, Repr

/-- One step of the CRC register, generator x^16 + x^12 + x^5 + 1 (R167). -/
def crcStep (reg : BitVec 16) (bit : Bool) : BitVec 16 :=
  if reg.getLsbD 15 != bit then (reg <<< 1) ^^^ 0x1021#16 else reg <<< 1

/-- The CRC over a list of bits; the register begins with sixteen ones (R167). -/
def crc16 (bits : List Bool) : BitVec 16 := bits.foldl crcStep 0xFFFF#16

/-- The 18 header bits from the first kind bit to the last length bit (R167). -/
def WireFrame.headerBits (f : WireFrame) : List Bool :=
  natBits 4 f.kind.val ++ (natBits 4 f.src.val ++ (natBits 5 f.dst.val ++ natBits 5 f.payload.length))

/-- The bits the CRC covers: header and payload (R167). -/
def WireFrame.covered (f : WireFrame) : List Bool := f.headerBits ++ payloadBits f.payload

/-- The cells of a frame from the start cell, which carries 0, to the last CRC bit (R167). -/
def WireFrame.body (f : WireFrame) : List Bool :=
  false :: (f.covered ++ natBits 16 (crc16 f.covered).toNat)

/-- The cells of a frame as its sender makes them: the verdict cells TAKEN and SPOIL are short pulses (R167, R170). -/
def WireFrame.cells (f : WireFrame) : List Bool := f.body ++ [true, true]

/-- The cells of a frame as the line carries them, a verdict cell long when a receiver extends it (R170). -/
def WireFrame.onLine (f : WireFrame) (takenLong spoilLong : Bool) : List Bool := f.body ++ [!takenLong, !spoilLong]

/-- The minimum payload of each kind (Table 11-2). -/
def minPayload (kind : Nat) : Nat :=
  match kind with
  | 0 => 2
  | 1 => 2
  | 2 => 1
  | 3 => 5
  | 4 => 5
  | 5 => 18
  | 6 => 2
  | 7 => 2
  | 8 => 4
  | _ => 0

/-! ## Pulses and cells (R165) -/

/-- A dominant pulse on the line: its leading edge and its length, in nanoseconds. -/
structure Pulse where
  leading : Nat
  length  : Nat
deriving DecidableEq, Repr

/-- The bit a pulse reads as, by its length in nanoseconds: 1 to 3 µs a 1, 4 to 6.5 µs a 0, else none (R165). -/
def pulseBit (ns : Nat) : Option Bool :=
  if 1000 ≤ ns ∧ ns ≤ 3000 then some true else if 4000 ≤ ns ∧ ns ≤ 6500 then some false else none

/-- The pulse a sender makes for a bit, in nanoseconds (R165). -/
def pulseLength (bit : Bool) : Nat := if bit then 2000 else 5000

/-- Whether a pulse begins 8 µs after the leading edge of the one before, within 1 µs either way (R165). -/
def onGrid (before leading : Nat) : Bool := before + 7000 ≤ leading && leading ≤ before + 9000

/-- The pulses a sender makes for cells, the first with its leading edge at a time: one each 8 µs (R165). -/
def pulsesOf : Nat → List Bool → List Pulse
  | _, [] => []
  | time, bit :: cells => ⟨time, pulseLength bit⟩ :: pulsesOf (time + 8000) cells

/-- The cells that follow the cell at `before`, each read from its pulse. A pulse of no valid length, a pulse before the
grid's next place and a cell with no pulse are encoding errors; over a cell with no pulse the grid goes on (R165). -/
def readCells : Nat → Nat → List Pulse → List (Option Bool)
  | 0, _, _ => []
  | n + 1, before, pulses =>
    let stray := pulses.takeWhile fun p => p.leading < before + 7000
    match pulses.dropWhile fun p => p.leading < before + 7000 with
    | [] => none :: readCells n (before + 8000) []
    | p :: rest =>
      if onGrid before p.leading then
        (if stray.isEmpty then pulseBit p.length else none) :: readCells n p.leading rest
      else none :: readCells n (before + 8000) (p :: rest)

/-- The cells of what begins with a pulse on an idle line; a frame has at most 197 (R165, R167). -/
def cellsOf : List Pulse → List (Option Bool)
  | [] => []
  | p :: rest => pulseBit p.length :: readCells 196 p.leading rest

/-- The line is idle between a pulse and the next: 88 µs without a pulse (R165, log entry 40). -/
def idleBetween (p q : Pulse) : Bool := p.leading + p.length + 88000 ≤ q.leading

/-- Pulses parted where the line is idle (R165). -/
def splitIdle : List Pulse → List (List Pulse)
  | [] => []
  | p :: rest =>
    match splitIdle rest with
    | (q :: burst) :: bursts => if idleBetween p q then [p] :: (q :: burst) :: bursts else (p :: q :: burst) :: bursts
    | _ => [[p]]

/-! ## The receiver's checks (R170) -/

/-- How the checks of a receiver ended (R170). -/
inductive Reception
  /-- the verdict cells could not be placed -/
  | unplaced
  /-- found bad, with the verdict cells placed by the length -/
  | bad (len : Nat)
  /-- checked good -/
  | good (f : WireFrame)
deriving DecidableEq, Repr

/-- The receiver's checks on a frame's cells up to the last CRC bit, each cell a bit or an encoding error (R170): no
encoding error, a length of 0 to 20, the minimum payload of the kind, and the CRC. -/
def readFrame (cells : List (Option Bool)) : Reception :=
  match (cells.take 19).mapM id with
  | none => .unplaced
  | some [] => .unplaced
  | some (_ :: header) =>
    let len := bitsNat ((header.drop 13).take 5)
    if header.length < 18 ∨ 20 < len then .unplaced else
    match ((cells.drop 19).take (8 * len + 16)).mapM id with
    | none => .bad len
    | some body =>
      let f : WireFrame := {
        kind := Fin.ofNat 16 (bitsNat (header.take 4))
        src := Fin.ofNat 16 (bitsNat ((header.drop 4).take 4))
        dst := Fin.ofNat 32 (bitsNat ((header.drop 8).take 5))
        payload := bitsBytes len body }
      if body.length < 8 * len + 16 ∨ len < minPayload f.kind.val ∨
          bitsNat (body.drop (8 * len)) ≠ (crc16 f.covered).toNat then .bad len
      else .good f

/-- The verdict cell TAKEN (`i` 0) or SPOIL (`i` 1) behind a payload of `len` bytes reads long: a pulse of 4 to 6.5 µs;
it is short otherwise (R170). -/
def verdictLong (cells : List (Option Bool)) (len i : Nat) : Bool := cells[35 + 8 * len + i]? = some (some false)

/-- The verdict behind a payload of `len` bytes takes the frame: TAKEN reads long and SPOIL short (R171). -/
def verdictTakes (cells : List (Option Bool)) (len : Nat) : Bool := verdictLong cells len 0 && !verdictLong cells len 1

/-! ## The command of a frame (R171, R179, Tables 11-2 to 11-4 and 11-8) -/

/-- Byte `i` of a payload; it is asked only for bytes the payload holds. -/
def byteAt (payload : List Byte) (i : Nat) : Byte := payload.getD i 0

/-- The COMMAND a payload carries (Table 11-4); bytes beyond its length are not read, an operand the payload is too
short for is absent (R179, R183). -/
def commandOfBytes (src : Station) (dst : Dest) (p : List Byte) : Instr :=
  match (byteAt p 0).toNat with
  | 1 => .start src dst <|
      if p.length < 8 then none
      else some ⟨byteAt p 1, joinBytes (byteAt p 2) (byteAt p 3),
        join32 (byteAt p 4) (byteAt p 5) (byteAt p 6) (byteAt p 7)⟩
  | 2 => .pause src dst
  | 3 => .resume src dst
  | 4 => .abort src dst
  | 5 => .skip src dst
  | 6 => .confirm src dst
  | 7 => .clear src dst
  | 8 => .tare src dst
  | 9 => .openSlot src dst (if p.length < 3 then none else some (byteAt p 1, byteAt p 2))
  | 10 => .closeSlot src dst
      (if p.length < 4 then none else some (byteAt p 1, joinBytes (byteAt p 2) (byteAt p 3)))
  | 11 => .restart src dst
  | _ => .unknownCommand src dst (byteAt p 0)

/-- The QUERY a payload carries (Table 11-8). -/
def queryOfBytes (src : Station) (dst : Dest) (item index : Byte) : Instr :=
  match item.toNat with
  | 1 => .status src dst
  | 2 => .sample src dst
  | 3 => .row src dst index
  | 4 => .slot src dst index
  | 5 => .step src dst index
  | 6 => .journal src dst index
  | 7 => .marks src dst index
  | _ => .unknownItem src dst item index

/-- The command a taken frame is, by its kind (Table 11-2, R171). -/
def commandOf (f : WireFrame) : Instr :=
  let p := f.payload
  match f.kind.val with
  | 0 => .evict f.src f.dst (joinBytes (byteAt p 0) (byteAt p 1))
  | 1 => .claim f.src f.dst (byteAt p 0) (byteAt p 1)
  | 2 => commandOfBytes f.src f.dst p
  | 3 => .mark f.src f.dst (byteAt p 0) (join32 (byteAt p 1) (byteAt p 2) (byteAt p 3) (byteAt p 4))
  | 4 => .setup f.src f.dst (joinBytes (byteAt p 0) (byteAt p 1)) (joinBytes (byteAt p 2) (byteAt p 3)) (byteAt p 4)
  | 5 => .stepLoad f.src f.dst (byteAt p 0) (byteAt p 1) (Vector.ofFn fun i => byteAt p (i.val + 2))
  | 6 => queryOfBytes f.src f.dst (byteAt p 0) (byteAt p 1)
  | 8 => .presence f.src f.dst (byteAt p 0) (byteAt p 1) (byteAt p 2) (byteAt p 3) <|
      if p.length < 9 then none
      else some (byteAt p 4, join32 (byteAt p 5) (byteAt p 6) (byteAt p 7) (byteAt p 8))
  | _ => .otherKindTaken f.src f.dst f.kind

/-- The command that a frame is, from its cells: taken when the checks passed, TAKEN reads long and SPOIL reads short
(R171). -/
def frameCommand (cells : List (Option Bool)) : Instr :=
  match readFrame cells with
  | .unplaced => .frameFoundBad .unplaced
  | .bad len => .frameFoundBad (.read (verdictLong cells len 0) (verdictLong cells len 1))
  | .good f => if verdictTakes cells f.payload.length then commandOf f else .frameSpoiled

/-- What the cells read from an idle line are: a frame when the first reads as 0, the start cell; else nothing, and it is
counted nowhere (R165). -/
def receive (cells : List (Option Bool)) : Option Instr :=
  match cells with
  | some false :: _ => some (frameCommand cells)
  | _ => none

/-- The commands that the pulses on a line from idle to idle are: one for each frame (R165, R170, R171). -/
def hear (pulses : List Pulse) : List Instr := (splitIdle pulses).filterMap fun burst => receive (cellsOf burst)

/-! ## What a sender reads back (R168, R169, R171) -/

/-- How the cells of an own frame read back, up to the last CRC bit (R168, R169). -/
inductive Echo
  /-- every cell as sent -/
  | same
  /-- a 0 where a 1 of the arbitration field was sent: the arbitration is lost -/
  | lost
  /-- an echo fault -/
  | fault
deriving DecidableEq, Repr

/-- What a sender makes of cell `i` of its frame, read back as a bit or an encoding error. In the arbitration field, the
cells 1 to 8, a 0 for a 1 loses the arbitration; any other cell unlike the one sent, in the start cell and the arbitration
field as well, is an echo fault (R168, R169). -/
def cellEcho (i : Nat) (sent : Bool) (read : Option Bool) : Echo :=
  if read = some sent then .same else if 1 ≤ i ∧ i ≤ 8 ∧ read = some false then .lost else .fault

/-- The first cell not as sent decides, since the sender stops sending there; `i` is the place of the first cell given.
A cell that is not there has no pulse (R168, R169). -/
def echoFrom : Nat → List Bool → List (Option Bool) → Echo
  | _, [], _ => .same
  | i, sent :: body, cells =>
    match cellEcho i sent cells.head?.join with
    | .same => echoFrom (i + 1) body cells.tail
    | .lost => .lost
    | .fault => .fault

/-- How the frame reads back from the cells on the line (R168, R169). -/
def WireFrame.echo (f : WireFrame) (cells : List (Option Bool)) : Echo := echoFrom 0 f.body cells

/-- The arbitration field on the line; a cell that reads as no bit counts as a 0 (R167, R168). -/
def arbitrationRead (cells : List (Option Bool)) : Byte :=
  BitVec.ofNat 8 (bitsNat (((cells.drop 1).take 8).map fun read => read.getD false))

/-- The commands that the offer of a frame is, from the cells the line carries from its start cell on: the offer, and its
end at the verdict or by an echo fault. After a lost arbitration or an echo fault the station receives the rest of the
frame from the bits it has read (R168, R169, R171). -/
def hearSent (f : WireFrame) (cells : List (Option Bool)) : List Instr :=
  match f.echo cells with
  | .same => [.offer none, if verdictTakes cells f.payload.length then .ownFrameTaken else .ownFrameDropped]
  | .lost => .offer (some (arbitrationRead cells)) :: (receive cells).toList
  | .fault => .offer none :: .echoFault :: (receive cells).toList

/-! ## The frame of a command: the encoder -/

/-- The frame a COMMAND row stands for: its code and the bytes after it (Table 11-4). -/
def commandFrame (src : Station) (dst : Dest) (code : Byte) (rest : List Byte) : Option WireFrame :=
  some ⟨2, src, dst, code :: rest⟩

/-- The frame a QUERY row stands for (Table 11-3). -/
def queryFrame (src : Station) (dst : Dest) (item index : Byte) : Option WireFrame :=
  some ⟨6, src, dst, [item, index]⟩

/-- The shortest frame a frame command stands for; a command that is no frame has none. -/
def wireOf : Instr → Option WireFrame
  | .evict src dst mask => some ⟨0, src, dst, [hiByte mask, loByte mask]⟩
  | .claim src dst requested want => some ⟨1, src, dst, [requested, want]⟩
  | .mark src dst tag marks => some ⟨3, src, dst, tag :: bytes32 marks⟩
  | .setup src dst zero cpk probe =>
      some ⟨4, src, dst, [hiByte zero, loByte zero, hiByte cpk, loByte cpk, probe]⟩
  | .stepLoad src dst slot index record => some ⟨5, src, dst, slot :: index :: record.toList⟩
  | .presence src dst states codes grant want none => some ⟨8, src, dst, [states, codes, grant, want]⟩
  | .presence src dst states codes grant want (some (tag, marks)) =>
      some ⟨8, src, dst, states :: codes :: grant :: want :: tag :: bytes32 marks⟩
  | .otherKindTaken src dst kind => some ⟨kind, src, dst, if kind.val = 7 then [0, 0] else []⟩
  | .start src dst none => commandFrame src dst 1 []
  | .start src dst (some a) => commandFrame src dst 1 (a.tag :: hiByte a.mask :: loByte a.mask :: bytes32 a.slots)
  | .pause src dst => commandFrame src dst 2 []
  | .resume src dst => commandFrame src dst 3 []
  | .abort src dst => commandFrame src dst 4 []
  | .skip src dst => commandFrame src dst 5 []
  | .confirm src dst => commandFrame src dst 6 []
  | .clear src dst => commandFrame src dst 7 []
  | .tare src dst => commandFrame src dst 8 []
  | .openSlot src dst none => commandFrame src dst 9 []
  | .openSlot src dst (some (slot, count)) => commandFrame src dst 9 [slot, count]
  | .closeSlot src dst none => commandFrame src dst 10 []
  | .closeSlot src dst (some (slot, check)) => commandFrame src dst 10 [slot, hiByte check, loByte check]
  | .restart src dst => commandFrame src dst 11 []
  | .unknownCommand src dst code => commandFrame src dst code []
  | .status src dst => queryFrame src dst 1 0
  | .sample src dst => queryFrame src dst 2 0
  | .row src dst index => queryFrame src dst 3 index
  | .slot src dst index => queryFrame src dst 4 index
  | .step src dst index => queryFrame src dst 5 index
  | .journal src dst index => queryFrame src dst 6 index
  | .marks src dst index => queryFrame src dst 7 index
  | .unknownItem src dst item index => queryFrame src dst item index
  | .reset _ _ | .gateEnd _ | .secondBoundary _ | .debouncedStateChange _ | .rangeConditionChange _
  | .heaterSampleSet | .stirrerSampleSet | .scaleSampleSet | .engineSampleSet | .burstSlotEnd
  | .rawBowlOpenHeater | .rawBowlOpenStirrer | .rawBowlSeated | .lockSensed | .lockDropped | .lockTimerExpiry
  | .spinupTimerExpiry | .stall | .stoppingEnd | .lockRelease | .intervalPhaseEnd | .economy | .durationEnd
  | .holdAboveReached | .dipReset | .timeout | .bowlReport | .probeReport | .scaleReport | .overweight
  | .sensor | .overtemp | .lidReport | .stallReport | .lidSense | .addSatisfied | .lostPower | .budgetMismatch
  | .barred | .wantChange | .usableUnits | .claimReviewTimer | .silenceTimer _ | .tableReady | .offer _
  | .echoFault | .ownFrameTaken | .ownFrameDropped | .frameFoundBad _ | .frameSpoiled | .ownSilence _
  | .presenceTimer | .listenWindow | .quietTimer | .lineFault _ | .presenceMarks | .filteredLevelChange _ _
  | .resetAsserted _ => none

end Sys2Proof
end

