-- ==== Sys2Proof/Machine/State.lean ====
section
/-! DEFINITION. Machine/State.lean: the state of the block as plain data, every record with its reset value, the
reasons of a stop, and State.reset. -/

namespace Sys2Proof.Machine

/-! ## Shared small types -/

/-- A timer as the manual's records hold it; `expired` is also "run out" (Tables 3-1, 10-1). -/
inductive Timer
  | stopped
  | running
  | expired
deriving DecidableEq, Repr

/-- The approach direction of a step with a target (R30). -/
inductive Approach
  | heating
  | cooling
deriving DecidableEq, Repr

/-- The heater's economy state (R108). -/
inductive Economy
  | full
  | economy
deriving DecidableEq, Repr

/-- The direction of stirring (R7). -/
inductive Direction
  | forward
  | reverse
deriving DecidableEq, Repr

/-- The stirring pattern (R7). -/
inductive Pattern
  | continuous
  | interval
deriving DecidableEq, Repr

/-- The pattern position of an INTERVAL setting: the phase (true is ON) and the seconds left in it (Table 6-1). -/
structure PatternPos where
  on   : Bool
  left : Nat
deriving DecidableEq, Repr

/-- The weigh phase (Table 7-1). -/
inductive WeighPhase
  | none
  | settle
  | add
deriving DecidableEq, Repr

/-! ## Measurement channels (Table 8-1) -/

/-- A sample set (Table 8-3); the switch fields are the debounced states, true is seated, closed, locked. -/
structure SampleSet where
  seq      : Nat
  boundary : Bool
  wgt      : Nat
  base     : Nat
  food     : Nat
  tach     : Nat
  bowl     : Bool
  lid      : Bool
  lock     : Bool
deriving DecidableEq, Repr

/-- A frequency input: its level after the glitch filter and the edges counted in the present gate (R142). -/
structure PulseInput where
  level : Bool
  edges : Nat
deriving DecidableEq, Repr

/-- A switch after the debouncer: the debounced state and the debounce count (R150). -/
structure Debounce where
  level : Bool
  count : Nat
deriving DecidableEq, Repr

/-- The range condition of a channel and its range count (R147). -/
structure RangeWatch where
  present : Bool
  count   : Nat
deriving DecidableEq, Repr

/-- The measurement channel record (Table 8-1). -/
structure Channels where
  gateTimer : Timer
  boundary  : Nat
  wgt       : PulseInput
  base      : PulseInput
  food      : PulseInput
  tach      : PulseInput
  seq       : Nat
  latest    : SampleSet
  bowl      : Debounce
  lid       : Debounce
  lock      : Debounce
  wgtRange  : RangeWatch
  baseRange : RangeWatch
  foodRange : RangeWatch
deriving DecidableEq, Repr

/-- A sample set as it is delivered to the engine: with the range conditions of its own gate end (R143, R145). -/
structure Delivery where
  set     : SampleSet
  wgtOut  : Bool
  baseOut : Bool
  foodOut : Bool
deriving DecidableEq, Repr

/-- The start set of R141: sequence number 0, counts 0, no second boundary, the raw switch states. -/
def SampleSet.start (pins : PinLevels) : SampleSet :=
  ⟨0, false, 0, 0, 0, 0, pins.bowlSeated, pins.lidClosed, pins.lidLocked⟩

/-- The channel record after reset and after RESTART (R141). -/
def Channels.reset (pins : PinLevels) : Channels where
  gateTimer := .running
  boundary := 0
  wgt := ⟨pins.wgt, 0⟩
  base := ⟨pins.base, 0⟩
  food := ⟨pins.food, 0⟩
  tach := ⟨pins.tach, 0⟩
  seq := 0
  latest := .start pins
  bowl := ⟨pins.bowlSeated, 0⟩
  lid := ⟨pins.lidClosed, 0⟩
  lock := ⟨pins.lidLocked, 0⟩
  wgtRange := ⟨false, 0⟩
  baseRange := ⟨false, 0⟩
  foodRange := ⟨false, 0⟩

/-! ## Heater (Table 5-1) -/

/-- The heater record (Table 5-1); temperatures are in quarter degrees but for the setpoint's target, in degrees.
`periodRunning` is clear until the first second boundary after a reset or RESTART (R99). -/
structure Heater where
  regulating    : Bool
  target        : Nat
  ramp          : Nat
  claimUnits    : Nat
  holdUnits     : Nat
  approach      : Option Approach
  rampBase      : Option Nat
  elapsed       : Nat
  targetNow     : Nat
  economy       : Economy
  economyCount  : Nat
  want          : Nat
  usable        : Nat
  entrySample   : Option Nat
  applied       : Nat
  onSlots       : Nat
  slotPos       : Nat
  cut           : Bool
  overTemp      : Bool
  periodRunning : Bool
deriving DecidableEq, Repr

/-- The heater record after reset and after RESTART (R99). -/
def Heater.reset : Heater where
  regulating := false
  target := 0
  ramp := 0
  claimUnits := 0
  holdUnits := 0
  approach := none
  rampBase := none
  elapsed := 0
  targetNow := 0
  economy := .full
  economyCount := 0
  want := 0
  usable := 0
  entrySample := none
  applied := 0
  onSlots := 0
  slotPos := 0
  cut := false
  overTemp := false
  periodRunning := false

/-! ## Stirrer (Table 6-1) -/

/-- The stirrer states (Table 6-1). -/
inductive StirrerState
  | stopped
  | locking
  | spinup
  | running
  | intervalOff
  | stopping
deriving DecidableEq, Repr

/-- A stirrer setting (R117). -/
structure Setting where
  level       : Nat
  direction   : Direction
  pattern     : Pattern
  onSeconds   : Nat
  offSeconds  : Nat
deriving DecidableEq, Repr

/-- The stirrer record (Table 6-1). -/
structure Stirrer where
  state           : StirrerState
  setting         : Setting
  patternPos      : Option PatternPos
  drivenLevel     : Nat
  drivenDirection : Direction
  duty            : Nat
  lockDriven      : Bool
  suspended       : Bool
  zeroCount       : Nat
  releaseCount    : Nat
  stallCount      : Nat
  lockTimer       : Timer
  spinTimer       : Timer
  lidSense        : Bool
deriving DecidableEq, Repr

/-- The stirrer record after reset and after RESTART (R115). -/
def Stirrer.reset : Stirrer where
  state := .stopped
  setting := ⟨0, .forward, .continuous, 0, 0⟩
  patternPos := none
  drivenLevel := 0
  drivenDirection := .forward
  duty := 0
  lockDriven := false
  suspended := false
  zeroCount := 0
  releaseCount := 0
  stallCount := 0
  lockTimer := .stopped
  spinTimer := .stopped
  lidSense := false

/-! ## Scale (Table 7-1) -/

/-- The scale record (Table 7-1); `suspended` is the phase mode SUSPENDED. `early` counts the sets yet to reach the scale
that do not come after the entry of its WEIGH step in the engine (R29, R135, R140, log entry 38). -/
structure Scale where
  reference   : Nat
  history     : List Int
  steady      : Bool
  latestCount : Option Nat
  latestGross : Option Int
  phase       : WeighPhase
  suspended   : Bool
  target      : Nat
  tolerance   : Nat
  reReference : Option Int
  added       : Option Int
  overTarget  : Option Bool
  reported    : Bool
  early       : Nat
deriving DecidableEq, Repr

/-- The scale record after reset and after RESTART (R131). -/
def Scale.reset : Scale where
  reference := 0
  history := []
  steady := false
  latestCount := none
  latestGross := none
  phase := .none
  suspended := false
  target := 0
  tolerance := 0
  reReference := none
  added := none
  overTarget := none
  reported := false
  early := 0

/-! ## Step engine (Table 2-1) -/

/-- The engine states (Table 2-2). -/
inductive EngineState
  | unready
  | idle
  | run
  | hold
  | ended
  | fault
deriving DecidableEq, Repr

/-- The step phases (Table 2-1). -/
inductive Phase
  | none
  | counting
  | approaching
  | waiting
  | weighing
  | accumulating
deriving DecidableEq, Repr

/-- The seven hold causes (Table 4-1). -/
inductive HoldCause
  | pause
  | lid
  | bowl
  | power
  | stall
  | probe
  | scale
deriving DecidableEq, Repr

/-- The hold cause set: any of the seven, each at most once (section 4.1). -/
structure HoldSet where
  pause : Bool
  lid   : Bool
  bowl  : Bool
  power : Bool
  stall : Bool
  probe : Bool
  scale : Bool
deriving DecidableEq, Repr

/-- The empty hold cause set. -/
def HoldSet.empty : HoldSet := ⟨false, false, false, false, false, false, false⟩

/-- The six faults (Table 4-4). -/
inductive FaultCode
  | overtemp
  | sensor
  | lidSense
  | stepTimeout
  | config
  | barred
deriving DecidableEq, Repr

/-- The weigh fields of the saved context (Table 4-2, R137). -/
structure SavedWeigh where
  phase     : WeighPhase
  reference : Nat
  added     : Option Int
deriving DecidableEq, Repr

/-- The saved context (Table 4-2). The ramp state is the ramp base and the elapsed ramp seconds. -/
structure SavedContext where
  slot        : Option (Fin 4)
  index       : Nat
  phase       : Phase
  approach    : Option Approach
  atTemp      : Bool
  duration    : Nat
  timeout     : Nat
  accumulator : Nat
  dip         : Nat
  targetNow   : Nat
  ramp        : Option (Nat × Nat)
  economy     : Economy
  patternPos  : Option PatternPos
  weigh       : Option SavedWeigh
  lifted      : Bool
deriving DecidableEq, Repr

/-- The engine record (Table 2-1). -/
structure Engine where
  state       : EngineState
  slot        : Option (Fin 4)
  index       : Nat
  phase       : Phase
  approach    : Option Approach
  atTemp      : Bool
  duration    : Nat
  timeout     : Nat
  accumulator : Nat
  dip         : Nat
  clock       : Nat
  tag         : Byte
  mask        : StationSet
  prompt      : Byte
  causes      : HoldSet
  fault       : Option FaultCode
  saved       : Option SavedContext
deriving DecidableEq, Repr

/-- The engine record after reset and after RESTART (R19, Table 2-1). -/
def Engine.reset : Engine where
  state := .unready
  slot := none
  index := 0
  phase := .none
  approach := none
  atTemp := false
  duration := 0
  timeout := 0
  accumulator := 0
  dip := 0
  clock := 0
  tag := 0
  mask := 0
  prompt := 0
  causes := .empty
  fault := none
  saved := none

/-! ## Step store (Table 1-1) -/

/-- The slot states (Table 1-2). -/
inductive SlotState
  | empty
  | loading
  | ready
  | running
deriving DecidableEq, Repr

/-- A recipe slot (Table 1-1); an index is present when its record is. -/
structure Slot where
  state   : SlotState
  count   : Nat
  records : Vector (Option StepBytes) 32
deriving DecidableEq, Repr

/-- An EMPTY slot (R1). -/
def Slot.reset : Slot := ⟨.empty, 0, Vector.replicate 32 none⟩

/-! ## Share unit (Tables 3-1 and 3-2) -/

/-- The status of a share table row (Table 3-1). -/
inductive RowStatus
  | absent
  | present
  | self
deriving DecidableEq, Repr

/-- A share table row (Table 3-1). -/
structure Row where
  status  : RowStatus
  grant   : Nat
  want    : Nat
  settled : Bool
  silence : Timer
deriving DecidableEq, Repr

/-- An ABSENT row (Table 3-1). -/
def Row.absent : Row := ⟨.absent, 0, 0, true, .stopped⟩

/-- The share unit's state (Tables 3-1 and 3-2). -/
structure Share where
  rows         : Vector Row 16
  pendingEvict : StationSet
  mismatch     : StationSet
  reviewTimer  : Timer
  usable       : Nat
deriving DecidableEq, Repr

/-- The table of the own row alone, with a given want (R51, R71). -/
def ownRowOnly (own : Station) (want : Nat) : Vector Row 16 :=
  (Vector.replicate 16 Row.absent).set own.val ⟨.self, 0, want, true, .stopped⟩

/-- The share unit after reset and after RESTART (R51). -/
def Share.reset (own : Station) : Share := ⟨ownRowOnly own 0, 0, 0, .stopped, 0⟩

/-! ## Line controller (Table 10-1) -/

/-- The participation states (Table 10-2). -/
inductive Participation
  | listen
  | live
  | lineFault
  | barred
deriving DecidableEq, Repr

/-- The result codes (Table 11-10). -/
inductive ResultCode
  | done
  | notSet
  | notPanel
  | refusedState
  | refusedSlot
  | slotBusy
  | badField
  | incomplete
  | checkMismatch
  | selfWait
  | notWaiting
  | notSteady
  | holdPersists
  | faultPersists
  | unknown
deriving DecidableEq, Repr

/-- A REPLY: its destination, the kind of the request it answers, result, detail and data (Table 11-7). -/
structure Reply where
  dst     : Station
  request : Nat
  result  : ResultCode
  detail  : Byte
  data    : List Byte
deriving DecidableEq, Repr

/-- The CLAIM of the CLAIM slot: requested grant and want (R68). -/
structure ClaimFrame where
  requested : Nat
  want      : Nat
deriving DecidableEq, Repr

/-- The MARK of the MARK slot: run tag and mark set (R157). -/
structure MarkFrame where
  tag   : Byte
  marks : MarkSet
deriving DecidableEq, Repr

/-- An own frame with its content (R168). -/
inductive OwnFrame
  | evict (mask : StationSet)
  | claim (c : ClaimFrame)
  | mark (m : MarkFrame)
  | reply (r : Reply)
  | presence (payload : List Byte)
deriving DecidableEq, Repr

/-- The frame on the line: its content as sent; whether its slot was filled, replaced or emptied since the offer began
(R171); whether the station left LIVE since then (R175). -/
structure LineFrame where
  frame   : OwnFrame
  changed : Bool
  left    : Bool
deriving DecidableEq, Repr

/-- The transmit slots (R174). PRESENCE is only filled or not: its content is captured at the offer (R168). -/
structure TxSlots where
  evict    : Option StationSet
  claim    : Option ClaimFrame
  mark     : Option MarkFrame
  reply    : Option Reply
  presence : Bool
deriving DecidableEq, Repr

/-- All five transmit slots empty. -/
def TxSlots.reset : TxSlots := ⟨none, none, none, none, false⟩

/-- What this station drove in the verdict cells of the frame last received (R170). -/
inductive VerdictDriven
  | nothing
  | taken
  | spoil
deriving DecidableEq, Repr

/-- The line controller record (Table 10-1) but for the slots and the straps. `finishing` is an own frame that a
RESTART found on the line and that is sent to its end; `abandoned` says that a RESTART came while a frame was being
received, which then acts no more (R166). -/
structure Line where
  participation : Participation
  onLine        : Option LineFrame
  finishing     : Option OwnFrame
  spoil         : Nat
  window        : Timer
  ownSilence    : Timer
  presence      : Timer
  quiet         : Timer
  verdict       : VerdictDriven
  abandoned     : Bool
deriving DecidableEq, Repr

/-- The line controller in LISTEN after reset and after RESTART (Table 10-1). -/
def Line.reset : Line where
  participation := .listen
  onLine := none
  finishing := none
  spoil := 0
  window := .running
  ownSilence := .stopped
  presence := .stopped
  quiet := .stopped
  verdict := .nothing
  abandoned := false

/-- The line controller in BARRED after reset with a wrong parity, or after RESTART in BARRED (Table 10-1). -/
def Line.resetBarred : Line := { Line.reset with participation := .barred, window := .stopped }

/-! ## Request handler (Table 11-11) -/

/-- The request handler record (Table 11-11). -/
structure Handler where
  panel          : Option Station
  zero           : Nat
  cpk            : Nat
  probe          : Bool
  restartPending : Bool
deriving DecidableEq, Repr

/-- The request handler after reset and after RESTART (Table 11-11). -/
def Handler.reset : Handler := ⟨none, 0, 0, false, false⟩

/-! ## Mark board (Table 9-1) -/

/-- The mark board record (Table 9-1). -/
structure Board where
  rows : Vector MarkSet 16
  own  : MarkSet
deriving DecidableEq, Repr

/-- The empty mark board (R153). -/
def Board.reset : Board := ⟨Vector.replicate 16 0, 0⟩

/-! ## Station journal (Table 9-2) -/

/-- The causes that end a step (Table 9-2). -/
inductive EndCause
  | completed
  | timedOut
  | skipped
  | aborted
  | superseded
  | faulted
deriving DecidableEq, Repr

/-- The reasons of LEFT_LIVE (Table 9-3). -/
inductive LeftReason
  | ownSilence
  | lineFault
  | barred
  | unchecked
deriving DecidableEq, Repr

/-- The station events with their parameters (Table 9-3). -/
inductive StationEvent
  | hold (cause : HoldCause)
  | resumed
  | fault (code : FaultCode)
  | faultAgain (code : FaultCode)
  | cleared
  | evicted (source : Station)
  | leftLive (reason : LeftReason)
  | joined
  | disagree (station : Station)
deriving DecidableEq, Repr

/-- A step entry (Table 9-2); end second and end cause are absent while it is open. The peak is in quarter degrees. -/
structure StepEntry where
  tag        : Byte
  slot       : Option (Fin 4)
  index      : Nat
  start      : Nat
  holds      : Nat
  peak       : Option Int
  added      : Option Int
  overTarget : Option Bool
  ending     : Option (Nat × EndCause)
deriving DecidableEq, Repr

/-- A journal entry (Table 9-2). -/
inductive JournalEntry
  | step (e : StepEntry)
  | station (tag : Byte) (second : Nat) (event : StationEvent)
deriving DecidableEq, Repr

/-- The station journal: the entries, oldest first, and the count of entries written (R160). -/
structure Journal where
  entries : List JournalEntry
  written : Nat
deriving DecidableEq, Repr

/-- The empty journal (R160). -/
def Journal.reset : Journal := ⟨[], 0⟩

/-! ## Events made and not yet taken (log entry 4) -/

/-- A report to the step engine (R81 to R84, R94, R136, R138). -/
inductive Report
  | bowl
  | probe
  | scale
  | overweight
  | sensor
  | overtemp
  | lid
  | stall
  | lidSense
  | addSatisfied
  | lostPower
  | budgetMismatch
  | barred
deriving DecidableEq, Repr

/-- The marks of a PRESENCE on their way to the mark board: sender, run tag, mark set (R155). -/
structure PresenceMarks where
  src   : Station
  tag   : Byte
  marks : MarkSet
deriving DecidableEq, Repr

/-- The events one unit has made for another and that unit has not yet taken, each list oldest first: the sample sets
of the four receivers, the engine's with its range conditions (R145), the wants for the share unit (R108), the usable
units for the heater (R107), the marks of PRESENCE frames for the board (R155), the reports for the engine. -/
structure Inbox where
  heater  : List SampleSet
  stirrer : List SampleSet
  scale   : List SampleSet
  engine  : List Delivery
  wants   : List Nat
  usables : List Nat
  marks   : List PresenceMarks
  reports : List Report
deriving DecidableEq, Repr

/-- No event under way. -/
def Inbox.reset : Inbox := ⟨[], [], [], [], [], [], [], []⟩

/-! ## The machine -/

/-- The state of the block. `resetN` is the level of RESET_N, `straps` the straps as last sampled, `pins` the raw
input levels, `freeCount` the model's counter of free values, `pending` the queue of commands. -/
structure State where
  resetN    : Bool
  straps    : Straps
  pins      : PinLevels
  chan      : Channels
  heater    : Heater
  stirrer   : Stirrer
  scale     : Scale
  engine    : Engine
  slots     : Vector Slot 4
  share     : Share
  line      : Line
  tx        : TxSlots
  handler   : Handler
  board     : Board
  journal   : Journal
  inbox     : Inbox
  freeCount : Nat
  pending   : List Instr
deriving DecidableEq, Repr

/-- Why a command may stop the machine with a fault. No command does: the manual's faults are states of the engine
(Table 4-4). The constructor is raised by nobody; a model that raised it would be safe. -/
inductive Fault
  /-- raised by no command; safe -/
  | unreachable
deriving DecidableEq, Repr

/-- Why a command may be refused. No command is. -/
inductive Refusal
  /-- a row without a meaning, raised only by an arm of exec; there is none; safe -/
  | notModelled (mnemonic : String)
deriving DecidableEq, Repr

/-- The block right after reset with the given straps and input levels, with no command waiting: every unit at its
reset value; LISTEN with good strap parity, else BARRED with the report made (R166). -/
def State.afterReset (straps : Straps) (pins : PinLevels) (parityGood : Bool) : State where
  resetN := true
  straps := straps
  pins := pins
  chan := .reset pins
  heater := .reset
  stirrer := .reset
  scale := .reset
  engine := .reset
  slots := Vector.replicate 4 .reset
  share := .reset straps.station
  line := if parityGood then .reset else .resetBarred
  tx := .reset
  handler := .reset
  board := .reset
  journal := .reset
  inbox := if parityGood then .reset else { Inbox.reset with reports := [.barred] }
  freeCount := 0
  pending := []

/-- The machine right after reset: station 0 with STP high (an odd number of ones), budget code 0, rating code 0, every
input pin low. DESIGN CHOICE (log entry 1): the manual leaves straps and pins to the board. -/
def State.reset : State :=
  .afterReset ⟨0, true, 0, 0⟩ ⟨false, false, false, false, false, false, false⟩ true

end Sys2Proof.Machine
end

