-- ==== Sys2Proof/Machine/Operands.lean ====
section
/-! DEFINITION. Machine/Operands.lean: operand forms: straps to units, step records from bytes and their validity,
conversions of counts, codes and byte layouts of what the part sends. -/

namespace Sys2Proof.Machine

/-! ## Straps (R50, R166) -/

/-- The line budget B in units (R50). -/
def budgetUnits (straps : Straps) : Nat := 16 + 8 * straps.budget.val

/-- The heater rating R in units (R50). -/
def ratingUnits (straps : Straps) : Nat := 10 + 5 * straps.rating.val

/-- Whether ST[3:0] and STP together hold an odd number of ones (R166). -/
def parityGood (straps : Straps) : Bool :=
  let n := straps.station.val
  ((n.testBit 0).xor (n.testBit 1)).xor ((n.testBit 2).xor ((n.testBit 3).xor straps.parity))

/-! ## Step records (R4, R9, R180, Table 11-6) -/

/-- What ends a step, with its parameters (R4). `atTemp` is count-from AT_TEMP. -/
inductive EndKind
  | time (atTemp : Bool) (seconds : Nat)
  | temp (seconds : Nat)
  | weigh (target tolerance : Nat)
  | mark (station : Station) (mark : Fin 32)
  | confirm
  | holdAbove (threshold seconds : Nat)
deriving DecidableEq, Repr

/-- A step record read by Table 11-6. -/
structure StepRec where
  kind       : EndKind
  continues  : Bool
  target     : Nat
  ramp       : Nat
  claimUnits : Nat
  holdUnits  : Nat
  setting    : Setting
  timeout    : Nat
  raise      : Option (Fin 32)
  prompt     : Byte
deriving DecidableEq, Repr

/-- Byte `i` of a record as a number. -/
def recByte (b : StepBytes) (i : Fin 16) : Nat := b[i].toNat

/-- A 16-bit field of a record. -/
def recWord (b : StepBytes) (i j : Fin 16) : Nat := 256 * recByte b i + recByte b j

/-- The end kind code, bits 7 to 5 of byte 0. -/
def endCode (b : StepBytes) : Nat := recByte b 0 / 32

/-- Count-from AT_TEMP, bit 4 of byte 0. -/
def fromTemp (b : StepBytes) : Bool := b[0].getLsbD 4

/-- The timeout policy CONTINUE, bit 3 of byte 0. -/
def policyContinue (b : StepBytes) : Bool := b[0].getLsbD 3

/-- The direction, bit 2 of byte 0. -/
def recDirection (b : StepBytes) : Direction := if b[0].getLsbD 2 then .reverse else .forward

/-- The pattern, bit 1 of byte 0. -/
def recPattern (b : StepBytes) : Pattern := if b[0].getLsbD 1 then .interval else .continuous

/-- Raise mark present, bit 0 of byte 0. -/
def raisePresent (b : StepBytes) : Bool := b[0].getLsbD 0

/-- Parameter A as a 16-bit number. -/
def paramA (b : StepBytes) : Nat := recWord b 8 9

/-- Parameter B as a 16-bit number. -/
def paramB (b : StepBytes) : Nat := recWord b 10 11

/-- The end kind with its parameters; codes 0 and 7 are none (R180). For MARK the station is byte 8 and the mark byte 9,
each in range by field 13 of a valid record. -/
def recKind (b : StepBytes) : Option EndKind :=
  match endCode b with
  | 1 => some (.time (fromTemp b) (paramA b))
  | 2 => some (.temp (paramA b))
  | 3 => some .confirm
  | 4 => some (.holdAbove (paramA b) (paramB b))
  | 5 => some (.weigh (paramA b) (paramB b))
  | 6 => some (.mark (Fin.ofNat 16 (recByte b 8)) (Fin.ofNat 32 (recByte b 9)))
  | _ => none

/-- A record read by Table 11-6, none when its end kind code names no kind. -/
def readRecord (b : StepBytes) : Option StepRec :=
  (recKind b).map fun kind =>
    { kind
      continues := policyContinue b
      target := recByte b 1
      ramp := recByte b 2
      claimUnits := recByte b 3
      holdUnits := recByte b 4
      setting := ⟨recByte b 5, recDirection b, recPattern b, recByte b 6, recByte b 7⟩
      timeout := recWord b 12 13
      raise := if raisePresent b then some (Fin.ofNat 32 (recByte b 14)) else none
      prompt := b[15] }

/-- `lo` to `hi`, both ends included. -/
def within (lo hi n : Nat) : Bool := lo ≤ n && n ≤ hi

/-- Parameter A within its range for the end kind (R4, R180). -/
def paramAValid (b : StepBytes) : Bool :=
  match endCode b with
  | 1 => within 1 65535 (paramA b)
  | 2 => true
  | 3 => paramA b = 0
  | 4 => within 50 100 (paramA b)
  | 5 => within 1 10000 (paramA b)
  | 6 => recByte b 8 ≤ 15 && recByte b 9 ≤ 31
  | _ => false

/-- Parameter B within its range for the end kind (R4). -/
def paramBValid (b : StepBytes) : Bool :=
  match endCode b with
  | 4 => within 1 3600 (paramB b)
  | 5 => within 1 50 (paramB b)
  | _ => paramB b = 0

/-- One of the two interval fields: 0 under CONTINUOUS, 1 to 60 under INTERVAL (Table 1-4). -/
def intervalValid (b : StepBytes) (n : Nat) : Bool :=
  match recPattern b with
  | .continuous => n = 0
  | .interval => within 1 60 n

/-- The fields of Table 1-4 in order, each with whether it is valid; fields 3, 9, 15 and 17 always are. -/
def fieldChecks (rating : Nat) (b : StepBytes) : List (Nat × Bool) :=
  let code := endCode b
  let target := recByte b 1
  [ (1, within 1 6 code),
    (2, !fromTemp b || code = 1),
    (4, (target = 0 || within 30 200 target) && !(target = 0 && (code = 2 || (code = 1 && fromTemp b)))),
    (5, recByte b 2 ≤ 30 && (target ≠ 0 || recByte b 2 = 0)),
    (6, recByte b 3 ≤ rating && (target ≠ 0 || recByte b 3 = 0)),
    (7, recByte b 4 ≤ recByte b 3),
    (8, recByte b 5 ≤ 12 && (code ≠ 5 || recByte b 5 ≤ 2)),
    (10, recPattern b = .continuous || recByte b 5 ≠ 0),
    (11, intervalValid b (recByte b 6)),
    (12, intervalValid b (recByte b 7)),
    (13, paramAValid b),
    (14, paramBValid b),
    (16, if raisePresent b then recByte b 14 ≤ 31 else recByte b 14 = 0) ]

/-- The number of the first field that fails, none for a valid record (R9). -/
def firstBadField (rating : Nat) (b : StepBytes) : Option Nat :=
  ((fieldChecks rating b).find? fun c => !c.2).map (·.1)

/-- The sum of a record's bytes (R12). -/
def recordSum (b : StepBytes) : Nat := (b.toList.map (·.toNat)).sum

/-! ## Conversions (R146) -/

/-- The temperature of a BASE or FOOD count in quarter degrees (R146). -/
def quarter (count : Nat) : Int := (count : Int) - 400

/-- The temperature as reported on the line: held within −400 to 32767 (R146). -/
def reportedQuarter (count : Nat) : Int := max (-400) (min 32767 (quarter count))

/-- The stirrer speed of a TACH count in rpm (R146). -/
def rpm (tach : Nat) : Nat := 10 * tach

/-- The speed as reported on the line: held at 65535 (R146). -/
def reportedRpm (tach : Nat) : Nat := min 65535 (rpm tach)

/-! ## Bytes (section 11.1) -/

/-- One byte of a number. -/
def u8 (n : Nat) : Byte := BitVec.ofNat 8 n

/-- Two bytes of a number, most significant first. -/
def u16 (n : Nat) : List Byte := [u8 (n / 256), u8 n]

/-- Three bytes of a number, most significant first. -/
def u24 (n : Nat) : List Byte := [u8 (n / 65536), u8 (n / 256), u8 n]

/-- Two bytes of a signed number. -/
def i16 (z : Int) : List Byte := let w := BitVec.ofInt 16 z; [hiByte w, loByte w]

/-- Bit `n` of a byte when the flag is set. -/
def flagBit (n : Nat) (b : Bool) : Nat := if b then 2 ^ n else 0

/-! ## Codes (Tables 11-5 to 11-10) -/

/-- Participation state codes (Table 11-5). -/
def Participation.code : Participation → Nat
  | .listen => 0
  | .live => 1
  | .lineFault => 2
  | .barred => 3

/-- Engine state codes (Table 11-5). -/
def EngineState.code : EngineState → Nat
  | .unready => 0
  | .idle => 1
  | .run => 2
  | .hold => 3
  | .ended => 4
  | .fault => 5

/-- Step phase codes (Table 11-8). -/
def Phase.code : Phase → Nat
  | .none => 0
  | .counting => 1
  | .approaching => 2
  | .waiting => 3
  | .weighing => 4
  | .accumulating => 5

/-- The bit number of a hold cause (Table 11-5). -/
def HoldCause.code : HoldCause → Nat
  | .pause => 0
  | .lid => 1
  | .bowl => 2
  | .power => 3
  | .stall => 4
  | .probe => 5
  | .scale => 6

/-- The hold cause set as a byte (Table 11-5). -/
def HoldSet.code (h : HoldSet) : Nat :=
  flagBit 0 h.pause + flagBit 1 h.lid + flagBit 2 h.bowl + flagBit 3 h.power + flagBit 4 h.stall +
    flagBit 5 h.probe + flagBit 6 h.scale

/-- Fault codes (Table 11-5). -/
def FaultCode.code : FaultCode → Nat
  | .overtemp => 1
  | .sensor => 2
  | .lidSense => 3
  | .stepTimeout => 4
  | .config => 5
  | .barred => 6

/-- The fault code byte; none is 0 (Table 11-5). -/
def faultByte (f : Option FaultCode) : Nat :=
  match f with
  | none => 0
  | some c => c.code

/-- Slot state codes (Table 11-8). -/
def SlotState.code : SlotState → Nat
  | .empty => 0
  | .loading => 1
  | .ready => 2
  | .running => 3

/-- Row status codes (Table 11-8). -/
def RowStatus.code : RowStatus → Nat
  | .absent => 0
  | .present => 1
  | .self => 2

/-- End cause codes (Table 11-9). -/
def EndCause.code : EndCause → Nat
  | .completed => 1
  | .timedOut => 2
  | .skipped => 3
  | .aborted => 4
  | .superseded => 5
  | .faulted => 6

/-- LEFT_LIVE reason codes (Table 11-9). -/
def LeftReason.code : LeftReason → Nat
  | .ownSilence => 1
  | .lineFault => 2
  | .barred => 3
  | .unchecked => 4

/-- Event code and parameter byte (Table 11-9). -/
def StationEvent.codes : StationEvent → Nat × Nat
  | .hold c => (1, c.code)
  | .resumed => (2, 0)
  | .fault c => (3, c.code)
  | .faultAgain c => (4, c.code)
  | .cleared => (5, 0)
  | .evicted s => (6, s.val)
  | .leftLive r => (7, r.code)
  | .joined => (8, 0)
  | .disagree s => (9, s.val)

/-- Result codes (Table 11-10). -/
def ResultCode.code : ResultCode → Nat
  | .done => 0
  | .notSet => 1
  | .notPanel => 2
  | .refusedState => 3
  | .refusedSlot => 4
  | .slotBusy => 5
  | .badField => 6
  | .incomplete => 7
  | .checkMismatch => 8
  | .selfWait => 9
  | .notWaiting => 10
  | .notSteady => 11
  | .holdPersists => 12
  | .faultPersists => 13
  | .unknown => 14

/-- The kind code of an own frame (Table 11-2). -/
def OwnFrame.kind : OwnFrame → Fin 16
  | .evict _ => 0
  | .claim _ => 1
  | .mark _ => 3
  | .reply _ => 7
  | .presence _ => 8

/-- The destination of an own frame: REPLY to the source of the request, every other to all (R167). -/
def OwnFrame.dst : OwnFrame → Dest
  | .reply r => ⟨r.dst.val, by omega⟩
  | .evict _ => 31
  | .claim _ => 31
  | .mark _ => 31
  | .presence _ => 31

/-- The payload of a REPLY (Table 11-7). -/
def Reply.payload (r : Reply) : List Byte := u8 (16 * r.request + r.result.code) :: r.detail :: r.data

/-- The payload of an own frame (Tables 11-3, 11-5, 11-7). -/
def OwnFrame.payload : OwnFrame → List Byte
  | .evict mask => [hiByte mask, loByte mask]
  | .claim c => [u8 c.requested, u8 c.want]
  | .mark m => m.tag :: bytes32 m.marks
  | .reply r => r.payload
  | .presence payload => payload

/-- An own frame as it goes on the line from a station (R167). -/
def OwnFrame.wire (own : Station) (f : OwnFrame) : WireFrame := ⟨f.kind, own, f.dst, f.payload⟩

/-- The arbitration field of a frame: kind, then source (R167). -/
def arbitration (kind : Fin 16) (src : Station) : Nat := 16 * kind.val + src.val

/-! ## Journal entries as data (Table 11-9) -/

/-- The slot and index byte of a step entry. -/
def slotIndexByte (slot : Option (Fin 4)) (index : Nat) : Byte :=
  match slot with
  | none => u8 (index % 32)
  | some k => u8 (64 * k.val + index % 32)

/-- A net or added weight as reported: held within −32768 to 32767 (R134). -/
def reportedGrams (g : Int) : Int := max (-32768) (min 32767 g)

/-- A present quantity's bytes, or 0 for an absent one (Table 11-9). -/
def optI16 (z : Option Int) : List Byte :=
  match z with
  | none => u16 0
  | some v => i16 (reportedGrams v)

/-- The detail and data of a JOURNAL reply (Tables 11-8, 11-9). -/
def JournalEntry.reply : JournalEntry → Byte × List Byte
  | .step e =>
    let flags := flagBit 0 e.peak.isSome + flagBit 1 e.added.isSome + flagBit 2 (e.overTarget = some true) +
      flagBit 3 e.ending.isSome
    let ending := match e.ending with
      | none => u24 0 ++ [0]
      | some (second, cause) => u24 second ++ [u8 cause.code]
    (1, [e.tag, slotIndexByte e.slot e.index] ++ u24 e.start ++ [u8 e.holds] ++ optI16 e.peak ++ optI16 e.added ++
      [u8 flags] ++ ending)
  | .station tag second event =>
    (2, [tag] ++ u24 second ++ [u8 event.codes.1, u8 event.codes.2])

end Sys2Proof.Machine
end

