-- ==== Sys2Proof/Machine/Flags.lean ====
section
/-! DEFINITION. Machine/Flags.lean: the conditions the units test: ranges, debouncing, hold causes, the share table's
tests, steadiness, the standing of faults, the conditions of RESUME and CLEAR. -/

namespace Sys2Proof.Machine

/-! ## Ranges (Table 8-2, R147, R150) -/

/-- A WGT count in range (Table 8-2). -/
def wgtInRange (count : Nat) : Bool := within 1000 65000 count

/-- A BASE or FOOD count in range (Table 8-2). -/
def tempInRange (count : Nat) : Bool := within 300 1500 count

/-- The range condition after a gate end's count (R147). -/
def RangeWatch.update (w : RangeWatch) (inRange : Bool) : RangeWatch :=
  if w.present = inRange then
    if 2 ≤ w.count then ⟨!w.present, 0⟩ else ⟨w.present, w.count + 1⟩
  else ⟨w.present, 0⟩

/-- The debounced state after a gate end's raw reading (R150). -/
def Debounce.update (d : Debounce) (raw : Bool) : Debounce :=
  if d.level = raw then ⟨d.level, 0⟩
  else if 2 ≤ d.count then ⟨raw, 0⟩
  else ⟨d.level, d.count + 1⟩

/-! ## Hold causes (section 4.1) -/

/-- Whether a cause is in the set. -/
def HoldSet.has (h : HoldSet) : HoldCause → Bool
  | .pause => h.pause
  | .lid => h.lid
  | .bowl => h.bowl
  | .power => h.power
  | .stall => h.stall
  | .probe => h.probe
  | .scale => h.scale

/-- The set with a cause added. -/
def HoldSet.add (h : HoldSet) : HoldCause → HoldSet
  | .pause => { h with pause := true }
  | .lid => { h with lid := true }
  | .bowl => { h with bowl := true }
  | .power => { h with power := true }
  | .stall => { h with stall := true }
  | .probe => { h with probe := true }
  | .scale => { h with scale := true }

/-! ## Approach and target (R30, R101) -/

/-- The approach direction of a step decided from a BASE count: absent for target 0, HEATING below the target or with the
count out of range, else COOLING (R30, R101). -/
def approachOf (target count : Nat) : Option Approach :=
  if target = 0 then none
  else if !tempInRange count || quarter count < 4 * (target : Int) then some .heating
  else some .cooling

/-- The target test of R30 for a set whose BASE count is in range: within 1 °C of the target from the approach side. -/
def targetReached (approach : Option Approach) (target count : Nat) : Bool :=
  tempInRange count &&
    match approach with
    | none => false
    | some .heating => 4 * (target : Int) - 4 ≤ quarter count
    | some .cooling => quarter count ≤ 4 * (target : Int) + 4

/-! ## The share table (R55, R67, R75) -/

/-- The grants of all rows summed. -/
def grantSum (rows : Vector Row 16) : Nat := ((List.finRange 16).map fun i => rows[i].grant).sum

/-- The grants of all rows but one summed (R54). -/
def otherGrants (rows : Vector Row 16) (i : Station) : Nat :=
  ((List.finRange 16).map fun j => if j = i then 0 else rows[j].grant).sum

/-- The grant a CLAIM gives a row: a release or a claim for what is held takes the requested value, an increase the
smaller of it and the budget less the other rows (R54). -/
def grantAfterClaim (budget others requested grant : Nat) : Nat :=
  if requested ≤ grant then requested else min requested (budget - others)

/-- The table is ready: no PRESENT row unsettled, the grants within B (R75). -/
def tableReady (budget : Nat) (rows : Vector Row 16) : Bool :=
  ((List.finRange 16).all fun i => rows[i].status ≠ .present || rows[i].settled) && grantSum rows ≤ budget

/-- The number of stations that want power: PRESENT or SELF with a want above 0 (R67 item 1). -/
def wanting (rows : Vector Row 16) : Nat :=
  (List.finRange 16).countP fun i => rows[i].status ≠ .absent && 0 < rows[i].want

/-- The fair share: B divided by n, rounded down, with n of 2 or more (R67 item 2). -/
def fairShare (budget : Nat) (rows : Vector Row 16) : Option Nat :=
  if 2 ≤ wanting rows then some (budget / wanting rows) else none

/-- A starved row: PRESENT, want above grant, grant below the fair share (R67 item 3). -/
def Row.starved (r : Row) (fair : Nat) : Bool := r.status = .present && r.grant < r.want && r.grant < fair

/-- The target of a claim review (R67 item 4). -/
def reviewTarget (budget : Nat) (rows : Vector Row 16) (own : Station) : Nat :=
  match fairShare budget rows with
  | none => rows[own].want
  | some fair =>
    if (List.finRange 16).any fun i => i ≠ own && rows[i].starved fair then min rows[own].want fair
    else rows[own].want

/-- Usable units: the own grant, or the requested value of a waiting own CLAIM below it (R64). -/
def usableUnits (grant : Nat) (claim : Option ClaimFrame) : Nat :=
  match claim with
  | none => grant
  | some c => if c.requested < grant then c.requested else grant

/-- A destination that a block may be handed: not 16 to 30 (R171). -/
def Dest.handed (dst : Dest) : Bool := dst.val < 16 || dst.val = 31

/-! ## Weight (R132, R133) -/

/-- The grams of a count against a reference: times 1000, divided by the counts per kg, truncated toward zero (R132). -/
def grams (count reference cpk : Nat) : Int := Int.tdiv (((count : Int) - reference) * 1000) cpk

/-- A set has a weight when the counts per kg are not 0 and its WGT count is in range (R132). -/
def hasWeight (cpk count : Nat) : Bool := cpk ≠ 0 && wgtInRange count

/-- The weight history with a weight joined at its end, five at most (R132). -/
def pushWeight (history : List Int) (w : Int) : List Int :=
  let h := history ++ [w]
  if 5 < h.length then h.drop 1 else h

/-- The largest weight less the smallest (R133). -/
def span (history : List Int) : Int :=
  match history with
  | [] => 0
  | w :: ws => ws.foldl max w - ws.foldl min w

/-- Steady: five weights whose span is within the limit of the stirred level (R133). -/
def isSteady (history : List Int) (stirredLevel : Nat) : Bool :=
  history.length = 5 &&
    (if stirredLevel = 0 then span history ≤ 2 else if stirredLevel ≤ 2 then span history ≤ 6 else false)

/-- The net weight as reported: 0 before a set with a weight and without calibration (R134). -/
def netWeight (s : State) : Int :=
  match s.scale.latestCount with
  | none => 0
  | some count => if s.handler.cpk = 0 then 0 else reportedGrams (grams count s.scale.reference s.handler.cpk)

/-- The latest gross weight exceeds 15000 g; an absent one does not (R89, log entry 20). -/
def overweight (gross : Option Int) : Bool :=
  match gross with
  | none => false
  | some g => 15000 < g

/-! ## The current step -/

/-- The record stored at an index of a slot. -/
def Slot.recordAt (slot : Slot) (index : Nat) : Option StepBytes := slot.records[index]?.join

/-- The step record of the current step, read from the current slot (R16). -/
def curStep (s : State) : Option StepRec :=
  match s.engine.slot with
  | none => none
  | some k => (s.slots[k].recordAt s.engine.index).bind readRecord

/-- Whether a step is a WEIGH step. -/
def StepRec.isWeigh (st : StepRec) : Bool :=
  match st.kind with
  | .weigh _ _ => true
  | _ => false

/-- Whether a step is a HOLD_ABOVE step. -/
def StepRec.isHoldAbove (st : StepRec) : Bool :=
  match st.kind with
  | .holdAbove _ _ => true
  | _ => false

/-- Whether a step is a CONFIRM step. -/
def StepRec.isConfirm (st : StepRec) : Bool :=
  match st.kind with
  | .confirm => true
  | _ => false

/-- Whether a step ends by its duration counter: TIME or TEMP. -/
def StepRec.isTimed (st : StepRec) : Bool :=
  match st.kind with
  | .time _ _ => true
  | .temp _ => true
  | _ => false

/-- Whether the current step meets a test; without a current step none is met. -/
def curIs (s : State) (p : StepRec → Bool) : Bool :=
  match curStep s with
  | none => false
  | some st => p st

/-- The engine is in RUN or HOLD. -/
def EngineState.active (e : EngineState) : Bool := e = .run || e = .hold

/-! ## Standing faults, CLEAR and RESUME (Tables 4-3 to 4-5) -/

/-- The switches show the impossible state: lid open and locked (R128). -/
def lidContradiction (set : SampleSet) : Bool := !set.lid && set.lock

/-- Whether a fault's condition stands (Table 4-4, last column). -/
def standing (s : State) : FaultCode → Bool
  | .overtemp => 1320 ≤ s.chan.latest.base
  | .sensor => s.chan.baseRange.present
  | .lidSense => lidContradiction s.chan.latest
  | .stepTimeout => false
  | .config => s.share.mismatch ≠ 0
  | .barred => s.line.participation = .barred

/-- The faults in the order of Table 4-4. -/
def allFaults : List FaultCode := [.overtemp, .sensor, .lidSense, .stepTimeout, .config, .barred]

/-- Whether CLEAR is taken for a latched fault (Table 4-5). -/
def clearable (s : State) : FaultCode → Bool
  | .overtemp => within 300 1199 s.chan.latest.base
  | .sensor => !s.chan.baseRange.present
  | .lidSense => !lidContradiction s.chan.latest
  | .stepTimeout => true
  | .config => false
  | .barred => false

/-- The conditions of Table 4-3 for a RESUME of the current step. -/
def resumeMet (s : State) (st : StepRec) : Bool :=
  let h := s.engine.causes
  s.chan.latest.bowl &&
    (st.setting.level < 5 || s.chan.latest.lid) &&
    (!h.power || s.line.participation = .live) &&
    (!h.probe || !s.chan.foodRange.present) &&
    (!h.scale || (!s.chan.wgtRange.present && !overweight s.scale.latestGross))

/-- The standing conditions of R85 for a step just entered, in the order they are tested. -/
def standingCauses (s : State) (st : StepRec) : List HoldCause :=
  (if s.chan.latest.bowl then [] else [.bowl]) ++
    (if st.isHoldAbove && s.handler.probe && s.chan.foodRange.present then [.probe] else []) ++
    (if st.isWeigh && (s.chan.wgtRange.present ||
        (hasWeight s.handler.cpk s.chan.latest.wgt &&
          15000 < grams s.chan.latest.wgt s.handler.zero s.handler.cpk)) then [.scale] else [])

end Sys2Proof.Machine
end

