-- ==== Sys2Proof/Machine/Ops.lean ====
section
/-! DEFINITION. Machine/Ops.lean: the operations the units share: when an operation acts, the events made and taken
between units, the journal, the transmit slots, the share table's rows and usable units. -/

namespace Sys2Proof.Machine

/-- The outcome of a command. -/
abbrev Result := Host.Outcome State Fault Refusal

/-- The outcome of an operation of the running block; while RESET_N is low no operation acts (log entry 10). -/
def ran (op : State → State) (s : State) : Result := .next (if s.resetN then op s else s)

/-- The own station number (section 0.7). -/
def State.own (s : State) : Station := s.straps.station

/-- The line budget B. -/
def State.budget (s : State) : Nat := budgetUnits s.straps

/-- The heater rating R. -/
def State.rating (s : State) : Nat := ratingUnits s.straps

/-- The own row of the share table. -/
def State.ownRow (s : State) : Row := s.share.rows[s.own]

/-! ## Events made and taken (log entry 4) -/

/-- A report to the engine is made. -/
def report (r : Report) (s : State) : State :=
  { s with inbox := { s.inbox with reports := s.inbox.reports ++ [r] } }

/-- A report to the engine is made when a condition holds. -/
def reportIf (c : Bool) (r : Report) (s : State) : State := if c then report r s else s

/-- The engine takes a report of one kind; without such a report nothing happens (log entry 2). -/
def takeReport (r : Report) (op : State → State) (s : State) : State :=
  if r ∈ s.inbox.reports then
    op { s with inbox := { s.inbox with reports := s.inbox.reports.erase r } }
  else s

/-- The heater takes the oldest sample set delivered to it. -/
def takeHeaterSet (op : SampleSet → State → State) (s : State) : State :=
  match s.inbox.heater with
  | [] => s
  | set :: rest => op set { s with inbox := { s.inbox with heater := rest } }

/-- An operation made over channels as a unit sees them; the channels themselves stay. -/
def seeing (seen : Channels) (op : State → State) (s : State) : State :=
  { op { s with chan := seen } with chan := s.chan }

/-- The channels as a unit that handles a set sees them: every field of a set it reads belongs to that set (R145). -/
def Channels.withLatest (c : Channels) (set : SampleSet) : Channels := { c with latest := set }

/-- The channels as the engine sees them in the operation of a delivered set, with the range conditions of that set's gate
end (R143, R145, log entry 14). -/
def Channels.asDelivered (c : Channels) (d : Delivery) : Channels :=
  { c with
    latest := d.set
    wgtRange := { c.wgtRange with present := d.wgtOut }
    baseRange := { c.baseRange with present := d.baseOut }
    foodRange := { c.foodRange with present := d.foodOut } }

/-- The stirrer takes the oldest sample set delivered to it. -/
def takeStirrerSet (op : SampleSet → State → State) (s : State) : State :=
  match s.inbox.stirrer with
  | [] => s
  | set :: rest => seeing (s.chan.withLatest set) (op set) { s with inbox := { s.inbox with stirrer := rest } }

/-- The scale takes the oldest sample set delivered to it. -/
def takeScaleSet (op : SampleSet → State → State) (s : State) : State :=
  match s.inbox.scale with
  | [] => s
  | set :: rest => op set { s with inbox := { s.inbox with scale := rest } }

/-- The engine takes the oldest sample set delivered to it. -/
def takeEngineSet (op : SampleSet → State → State) (s : State) : State :=
  match s.inbox.engine with
  | [] => s
  | d :: rest => seeing (s.chan.asDelivered d) (op d.set) { s with inbox := { s.inbox with engine := rest } }

/-- The next free byte of the model (log entry 39), and the state after its counter has advanced. -/
def State.nextFree (s : State) : Byte × State :=
  (Config.freeByte s.freeCount, { s with freeCount := s.freeCount + 1 })

/-! ## The journal (R160 to R163) -/

/-- A step entry is open until its closing; a station entry never is. -/
def JournalEntry.isOpen : JournalEntry → Bool
  | .step e => e.ending.isNone
  | .station _ _ _ => false

/-- The list without its oldest closed entry (R163). -/
def removeOldestClosed : List JournalEntry → List JournalEntry
  | [] => []
  | e :: rest => if e.isOpen then e :: removeOldestClosed rest else rest

/-- An entry is added at the newest end (R160, R163). -/
def Journal.add (j : Journal) (e : JournalEntry) : Journal where
  entries := (if 32 ≤ j.entries.length then removeOldestClosed j.entries else j.entries) ++ [e]
  written := (j.written + 1) % 65536

/-- The entry with a change made to it when it is open (R160). -/
def JournalEntry.mapOpen (f : StepEntry → StepEntry) : JournalEntry → JournalEntry
  | .step e => if e.ending.isNone then .step (f e) else .step e
  | .station tag second event => .station tag second event

/-- A station entry is written with the engine's run tag and run clock (R162). -/
def noteEvent (event : StationEvent) (s : State) : State :=
  { s with journal := s.journal.add (.station s.engine.tag s.engine.clock event) }

/-- A field of the open step entry is written (R160). -/
def mapOpen (f : StepEntry → StepEntry) (s : State) : State :=
  { s with journal := { s.journal with entries := s.journal.entries.map (JournalEntry.mapOpen f) } }

/-- The peak as a sample set leaves it: raised by a higher temperature of an in-range count (R161). -/
def peakAfter (peak : Option Int) (count : Nat) : Option Int :=
  if tempInRange count then
    match peak with
    | none => some (quarter count)
    | some p => some (max p (quarter count))
  else peak

/-- The engine hands the journal the base temperature of a sample set (R161). -/
def notePeak (count : Nat) (s : State) : State := mapOpen (fun e => { e with peak := peakAfter e.peak count }) s

/-- A step entry is opened for the engine's current slot, step and run clock (R161). -/
def openEntry (s : State) : State :=
  { s with journal := s.journal.add <| .step {
      tag := s.engine.tag
      slot := s.engine.slot
      index := s.engine.index
      start := s.engine.clock
      holds := 0
      peak := peakAfter none s.chan.latest.base
      added := none
      overTarget := none
      ending := none } }

/-- The open step entry is closed with an end cause and the run clock (R161). -/
def closeEntry (cause : EndCause) (s : State) : State :=
  mapOpen (fun e => { e with ending := some (s.engine.clock, cause) }) s

/-- The hold count of the open entry rises by 1, up to 255 (R161). -/
def countHold (s : State) : State := mapOpen (fun e => { e with holds := min 255 (e.holds + 1) }) s

/-- The scale writes its added weight and over-target flag into the open entry (R161). -/
def noteAdded (s : State) : State :=
  mapOpen (fun e => { e with added := s.scale.added, overTarget := s.scale.overTarget }) s

/-! ## The transmit slots (R171, R174) -/

/-- The slot of a kind was filled, replaced or emptied: a frame of that kind on the line is no longer what the slot
holds (R171, log entry 18). -/
def touchSent (kind : Fin 16) (s : State) : State :=
  { s with line := { s.line with
      onLine := s.line.onLine.map fun f => if f.frame.kind = kind then { f with changed := true } else f } }

/-- The EVICT slot is filled, replaced or withdrawn. -/
def setEvictSlot (e : Option StationSet) (s : State) : State :=
  touchSent 0 { s with tx := { s.tx with evict := e } }

/-- The CLAIM slot is filled, replaced or withdrawn. -/
def setClaimSlot (c : Option ClaimFrame) (s : State) : State :=
  touchSent 1 { s with tx := { s.tx with claim := c } }

/-- The MARK slot is filled, replaced or withdrawn. -/
def setMarkSlot (m : Option MarkFrame) (s : State) : State :=
  touchSent 3 { s with tx := { s.tx with mark := m } }

/-- The REPLY slot is filled, replaced or emptied. -/
def setReplySlot (r : Option Reply) (s : State) : State :=
  touchSent 7 { s with tx := { s.tx with reply := r } }

/-! ## The share table (R52, R62, R64) -/

/-- A row of the share table is replaced. -/
def setRow (i : Station) (r : Row) (s : State) : State :=
  { s with share := { s.share with rows := s.share.rows.set i.val r } }

/-- The grant of the own row is set. -/
def setOwnGrant (grant : Nat) (s : State) : State := setRow s.own { s.ownRow with grant := grant } s

/-- The EVICT that a pending evict mask calls for (R62). -/
def evictFor (mask : StationSet) : Option StationSet := if mask = 0 then none else some mask

/-- The EVICT slot is made to hold what the pending evict mask calls for (R57, R62). -/
def syncEvict (s : State) : State :=
  if s.tx.evict = evictFor s.share.pendingEvict then s else setEvictSlot (evictFor s.share.pendingEvict) s

/-- The pending evict mask takes a value, and the EVICT slot follows in the same operation (R62). -/
def setPendingEvict (mask : StationSet) (s : State) : State :=
  syncEvict { s with share := { s.share with pendingEvict := mask } }

/-- The station set of one station. -/
def stationBit (i : Station) : StationSet := 1#16 <<< i.val

/-- A station joins the pending evict mask. -/
def addPending (i : Station) (s : State) : State := setPendingEvict (s.share.pendingEvict ||| stationBit i) s

/-- A station leaves the pending evict mask. -/
def dropPending (i : Station) (s : State) : State := setPendingEvict (s.share.pendingEvict &&& ~~~stationBit i) s

/-- Usable units take a value; a new one is handed to the heater (R64). -/
def setUsable (units : Nat) (s : State) : State :=
  if units = s.share.usable then s
  else { s with
    share := { s.share with usable := units }
    inbox := { s.inbox with usables := s.inbox.usables ++ [units] } }

/-- Usable units are recomputed from the own grant and the waiting own CLAIM (R64). -/
def refreshUsable (s : State) : State := setUsable (usableUnits s.ownRow.grant s.tx.claim) s

/-- The heater's want takes a value; a new one is reported to the share unit (R108). -/
def setWant (want : Nat) (s : State) : State :=
  if want = s.heater.want then s
  else { s with
    heater := { s.heater with want := want }
    inbox := { s.inbox with wants := s.inbox.wants ++ [want] } }

end Sys2Proof.Machine
end

