-- ==== Sys2Proof/Machine/Channels.lean ====
section
/-! DEFINITION. Machine/Channels.lean: the measurement channels: the glitch filters, gate ends, second
boundaries, debouncing and range conditions (spec/08). -/

namespace Sys2Proof.Machine

/-! ## The glitch filters (R142, Table 8-2) -/

/-- The filter width of a frequency input, in nanoseconds (Table 8-2). -/
def filterWidth : Channel → Nat
  | .wgt => 1000
  | .base => 20000
  | .food => 20000
  | .tach => 100000

/-- The changes of a filtered level that stands at `now`, from the pin's levels: the pin stands at `level` for the first
length, in nanoseconds, at the other level for the next, and so on. A level unlike `now` that stands for the filter width
without interruption becomes the filtered level; a shorter pulse or gap changes nothing (R142). -/
def glitchFilter (channel : Channel) : Bool → Bool → List Nat → List Instr
  | _, _, [] => []
  | now, level, stands :: later =>
    if level ≠ now ∧ filterWidth channel ≤ stands then
      .filteredLevelChange channel level :: glitchFilter channel level (!level) later
    else glitchFilter channel now (!level) later

/-- The record of a frequency input. -/
def Channels.input (c : Channels) : Channel → PulseInput
  | .wgt => c.wgt
  | .base => c.base
  | .food => c.food
  | .tach => c.tach

/-- The commands that the levels of an input's pin are, from its next change on; until then it stands at the filtered
level (R142). -/
def pinCommands (s : State) (channel : Channel) (lengths : List Nat) : List Instr :=
  glitchFilter channel (s.chan.input channel).level (!(s.chan.input channel).level) lengths

/-- A pulse input at a change of its filtered level: an edge from low to high is counted, up to 65535 (R142). -/
def PulseInput.change (p : PulseInput) (level : Bool) : PulseInput :=
  ⟨level, if level && !p.level then min 65535 (p.edges + 1) else p.edges⟩

/-- The channel record and the pins after a change of an input's filtered level; the pin stands at that level
(R142, log entry 9). -/
def filterChange (channel : Channel) (level : Bool) (s : State) : State :=
  match channel with
  | .wgt => { s with pins := { s.pins with wgt := level }, chan := { s.chan with wgt := s.chan.wgt.change level } }
  | .base => { s with pins := { s.pins with base := level }, chan := { s.chan with base := s.chan.base.change level } }
  | .food => { s with pins := { s.pins with food := level }, chan := { s.chan with food := s.chan.food.change level } }
  | .tach => { s with pins := { s.pins with tach := level }, chan := { s.chan with tach := s.chan.tach.change level } }

/-! ## Gate ends (R143 to R151) -/

/-- The channel record after a gate end with the raw switch levels then read (R143, items 1 to 7). -/
def Channels.gateEnd (c : Channels) (pins : PinLevels) : Channels :=
  let boundary := 4 ≤ c.boundary
  let seq := (c.seq + 1) % 65536
  let bowl := c.bowl.update pins.bowlSeated
  let lid := c.lid.update pins.lidClosed
  let lock := c.lock.update pins.lidLocked
  { gateTimer := .running
    boundary := if boundary then 0 else c.boundary + 1
    wgt := ⟨c.wgt.level, 0⟩
    base := ⟨c.base.level, 0⟩
    food := ⟨c.food.level, 0⟩
    tach := ⟨c.tach.level, 0⟩
    seq := seq
    latest := ⟨seq, boundary, c.wgt.edges, c.base.edges, c.food.edges, c.tach.edges, bowl.level, lid.level, lock.level⟩
    bowl := bowl
    lid := lid
    lock := lock
    wgtRange := c.wgtRange.update (wgtInRange c.wgt.edges)
    baseRange := c.baseRange.update (tempInRange c.base.edges)
    foodRange := c.foodRange.update (tempInRange c.food.edges) }

/-- The latest set as the engine is delivered it. -/
def Channels.delivery (c : Channels) : Delivery := ⟨c.latest, c.wgtRange.present, c.baseRange.present, c.foodRange.present⟩

/-- The set that a gate end formed is delivered to the four blocks (R145). -/
def deliver (c : Channels) (s : State) : State :=
  { s with inbox := { s.inbox with
      heater := s.inbox.heater ++ [c.latest]
      stirrer := s.inbox.stirrer ++ [c.latest]
      scale := s.inbox.scale ++ [c.latest]
      engine := s.inbox.engine ++ [c.delivery] } }

/-- The reports of a gate end: the debounced bowl opened, and each range condition that became present (R148, R151). -/
def gateReports (before after : Channels) (s : State) : State :=
  reportIf (before.bowl.level && !after.bowl.level) .bowl s
    |> reportIf (!before.wgtRange.present && after.wgtRange.present) .scale
    |> reportIf (!before.foodRange.present && after.foodRange.present) .probe
    |> reportIf (!before.baseRange.present && after.baseRange.present) .sensor

/-- The gate end as one operation; the raw LID_CLOSED level is the one read at this instant (R143, log entry 9). -/
def gateEndOp (lidClosed : Bool) (s : State) : State :=
  let pins := { s.pins with lidClosed := lidClosed }
  let after := s.chan.gateEnd pins
  gateReports s.chan after (deliver after { s with pins := pins, chan := after })

/-- The next gate end is a second boundary (R144). -/
def boundaryDue (c : Channels) : Bool := 4 ≤ c.boundary

/-- A gate end with these raw levels changes a debounced state (R150). -/
def debounceDue (c : Channels) (pins : PinLevels) : Bool :=
  (c.bowl.update pins.bowlSeated).level ≠ c.bowl.level ||
    (c.lid.update pins.lidClosed).level ≠ c.lid.level ||
    (c.lock.update pins.lidLocked).level ≠ c.lock.level

/-- A gate end changes a range condition (R147). -/
def rangeDue (c : Channels) : Bool :=
  (c.wgtRange.update (wgtInRange c.wgt.edges)).present ≠ c.wgtRange.present ||
    (c.baseRange.update (tempInRange c.base.edges)).present ≠ c.baseRange.present ||
    (c.foodRange.update (tempInRange c.food.edges)).present ≠ c.foodRange.present

/-! ## Meanings -/

/-- GATE_END (R143). -/
def execGateEnd (lidClosed : Bool) (s : State) : Result := ran (gateEndOp lidClosed) s

/-- SECOND_BOUNDARY (R144): the gate end, when it is the fifth after the last boundary (log entry 3). -/
def execSecondBoundary (lidClosed : Bool) (s : State) : Result :=
  ran (fun s => if boundaryDue s.chan then gateEndOp lidClosed s else s) s

/-- DEBOUNCED_STATE_CHANGE (R150): the gate end, when it changes a debounced state (log entry 3). -/
def execDebouncedStateChange (lidClosed : Bool) (s : State) : Result :=
  ran (fun s => if debounceDue s.chan { s.pins with lidClosed := lidClosed } then gateEndOp lidClosed s else s) s

/-- RANGE_CONDITION_CHANGE (R147): the gate end, when it changes a range condition (log entry 3). -/
def execRangeConditionChange (lidClosed : Bool) (s : State) : Result :=
  ran (fun s => if rangeDue s.chan then gateEndOp lidClosed s else s) s

/-- FILTERED_LEVEL_CHANGE (R142); `glitchFilter` says when one arises. -/
def execFilteredLevelChange (channel : Channel) (level : Bool) (s : State) : Result :=
  ran (filterChange channel level) s

end Sys2Proof.Machine
end

