-- ==== Sys2Proof/Machine/Layouts.lean ====
section
/-! DEFINITION. Machine/Layouts.lean: the byte layouts of what the part sends from its state: PRESENCE, and the data of
STATUS, SAMPLE, ROW, SLOT, STEP, JOURNAL and MARKS (spec/11). -/

namespace Sys2Proof.Machine

/-- The payload of an own PRESENCE, captured at the offer (Table 11-5, R168). -/
def presencePayload (s : State) : List Byte :=
  let e := s.engine
  let slot := match e.slot with
    | none => 7
    | some k => k.val
  let index := match e.slot with
    | none => 0
    | some _ => e.index
  [ u8 (64 * s.line.participation.code + 8 * e.state.code + slot),
    u8 (4 * s.straps.budget.val + s.straps.rating.val),
    u8 s.ownRow.grant,
    u8 s.ownRow.want,
    e.tag ] ++ bytes32 s.board.own ++
  [ u8 index, u8 e.causes.code, u8 (faultByte e.fault), e.prompt ] ++
  i16 (reportedQuarter s.chan.latest.base) ++ i16 (netWeight s)

/-- The data of STATUS (Table 11-8). -/
def statusData (s : State) : List Byte :=
  let e := s.engine
  let place := match e.slot with
    | none => [u8 255, u8 0]
    | some k => [u8 k.val, u8 e.index]
  [u8 e.state.code] ++ place ++
  [ u8 (e.phase.code + flagBit 7 e.atTemp), u8 e.causes.code, u8 (faultByte e.fault), e.tag ] ++ u24 e.clock ++
  [ u8 s.ownRow.want, u8 s.ownRow.grant, u8 s.share.usable ] ++ u16 s.journal.written

/-- The detail of SAMPLE (Table 11-8). -/
def sampleDetail (s : State) : Byte :=
  let set := s.chan.latest
  u8 (flagBit 0 set.boundary + flagBit 1 set.bowl + flagBit 2 set.lid + flagBit 3 set.lock + flagBit 4 s.scale.steady)

/-- The data of SAMPLE (Table 11-8, R152). -/
def sampleData (s : State) : List Byte :=
  let set := s.chan.latest
  u16 set.seq ++ u16 set.wgt ++ u16 set.base ++ u16 set.food ++ u16 set.tach ++
  i16 (reportedQuarter set.base) ++ i16 (reportedQuarter set.food) ++ u16 (reportedRpm set.tach) ++ i16 (netWeight s)

/-- The data of ROW (Table 11-8, R78). -/
def rowData (s : State) (i : Station) : List Byte :=
  let row := s.share.rows[i]
  [u8 row.status.code, u8 row.grant, u8 row.want]

/-- The present check of a slot: the bytes of its present records summed, modulo 65536 (R12). -/
def presentCheck (slot : Slot) : Nat :=
  slot.records.toList.foldl (fun n r => match r with
    | none => n
    | some b => (n + recordSum b) % 65536) 0

/-- The data of SLOT (Table 11-8, R18). -/
def slotData (slot : Slot) : List Byte := [u8 slot.state.code, u8 slot.count] ++ u16 (presentCheck slot)

/-- The record a STEP query reports: none for an absent index or one not below the step count (R18). -/
def storedRecord (slot : Slot) (index : Nat) : Option StepBytes :=
  if index < slot.count then slot.recordAt index else none

/-- The detail and data of STEP (Table 11-8). -/
def stepReply (slot : Slot) (index : Nat) : Byte × List Byte :=
  match storedRecord slot index with
  | none => (0, [])
  | some b => (1, b.toList)

/-- The detail and data of JOURNAL: index 0 is the newest entry (R164, Table 11-9). -/
def journalReply (j : Journal) (k : Nat) : Byte × List Byte :=
  match j.entries.reverse[k]? with
  | none => (0, [])
  | some e => e.reply

/-- The data of MARKS (R159, Table 11-8). -/
def marksData (s : State) (i : Station) : List Byte := bytes32 s.board.rows[i]

end Sys2Proof.Machine
end

