-- ==== Sys2Proof/Machine/Heater.lean ====
section
/-! DEFINITION. Machine/Heater.lean: the heater control: setpoints, the regulator, burst periods, cuts, economy and the
over-temperature test (spec/05). -/

namespace Sys2Proof.Machine

/-! ## The regulator (R102, R105) -/

/-- Target-now: the target, or the ramp base plus the ramp times the elapsed seconds over 60, in quarter degrees
rounded down and not above the target (R102). -/
def rampedTarget (target ramp elapsed : Nat) (base : Option Nat) : Nat :=
  match base with
  | none => 4 * target
  | some b => min (b + 4 * ramp * elapsed / 60) (4 * target)

/-- The demand (R105); 8 °C are 32 quarter degrees. -/
def demand (rating target targetNow count : Nat) : Nat :=
  if target = 0 ∨ !tempInRange count ∨ (targetNow : Int) ≤ quarter count then 0
  else min rating ((rating * ((targetNow : Int) - quarter count).toNat + 31) / 32)

/-- On-slots: 25 times the applied units over R, to the nearest whole slot, a half rounded up (R105). -/
def onSlotsOf (rating applied : Nat) : Nat := (50 * applied + rating) / (2 * rating)

/-- The record with the present period's applied units and on-slots computed from a BASE count (R105). R6 says that the
heater applies no units for a step whose claim units are 0, where R105 takes the demand and the usable units alone; the model
follows R6 there (log entry 35). -/
def Heater.compute (h : Heater) (rating count : Nat) : Heater :=
  let applied := if h.claimUnits = 0 then 0 else min (demand rating h.target h.targetNow count) h.usable
  { h with applied := applied, onSlots := onSlotsOf rating applied }

/-- The recompute within a running period; a cut period stays cut, and before the first boundary there is no period
(R99, R105, log entry 13). -/
def Heater.recompute (h : Heater) (rating count : Nat) : Heater :=
  if h.cut || !h.periodRunning then h else h.compute rating count

/-- The period cut (R107). Before the first second boundary no period runs (R99); an event that would cut one sets the flag
all the same (log entry 36). -/
def Heater.cutPeriod (h : Heater) : Heater := { h with cut := true, applied := 0, onSlots := 0 }

/-- The want a REGULATING heater has (R108). -/
def Heater.wantNow (h : Heater) : Nat :=
  if h.target = 0 then 0 else match h.economy with
    | .full => h.claimUnits
    | .economy => h.holdUnits

/-! ## Setpoints and off (R100, R103, R111) -/

/-- The ramp base of a step entered at a BASE count: the temperature raised to 0 °C, or 0 °C when the count is out of
range; only a HEATING step with a ramp has one (R101). -/
def rampBaseOf (target ramp count : Nat) : Option Nat :=
  if approachOf target count = some .heating ∧ ramp ≠ 0 then
    some (if tempInRange count then (quarter count).toNat else 0)
  else none

/-- The record after a step entry's setpoint, items 1 to 3 and 5 of R100. -/
def Heater.enter (h : Heater) (st : StepRec) (set : SampleSet) : Heater :=
  let base := rampBaseOf st.target st.ramp set.base
  { h with
    regulating := true
    target := st.target
    ramp := st.ramp
    claimUnits := st.claimUnits
    holdUnits := st.holdUnits
    approach := approachOf st.target set.base
    rampBase := base
    elapsed := 0
    targetNow := rampedTarget st.target st.ramp 0 base
    economy := .full
    economyCount := 0
    entrySample := some set.seq }

/-- The engine hands the heater a step's setpoint at step entry (R100). -/
def heaterSetpoint (st : StepRec) (s : State) : State :=
  let set := s.chan.latest
  let h := s.heater.enter st set
  setWant h.wantNow { s with heater := h.recompute s.rating set.base }

/-- The record after an off setting (R103, items 1 and 2). -/
def Heater.off (h : Heater) : Heater :=
  { h.cutPeriod with
    regulating := false
    target := 0
    ramp := 0
    claimUnits := 0
    holdUnits := 0
    approach := none
    rampBase := none
    elapsed := 0
    targetNow := 0
    economy := .full
    economyCount := 0
    entrySample := none }

/-- The engine hands the heater an off setting; an OFF heater is unchanged (R103). -/
def heaterOff (s : State) : State :=
  if s.heater.regulating then setWant 0 { s with heater := s.heater.off } else s

/-- The record after a RESUME's setpoint, items 1, 2 and 4 of R111. -/
def Heater.resumed (h : Heater) (st : StepRec) (saved : SavedContext) : Heater :=
  { h with
    regulating := true
    target := st.target
    ramp := st.ramp
    claimUnits := st.claimUnits
    holdUnits := st.holdUnits
    approach := saved.approach
    rampBase := saved.ramp.map (·.1)
    elapsed := (saved.ramp.map (·.2)).getD 0
    targetNow := saved.targetNow
    economy := saved.economy
    economyCount := 0
    entrySample := none }

/-- The engine hands the heater the step's setpoint with the saved state at RESUME (R111). -/
def heaterResume (st : StepRec) (saved : SavedContext) (s : State) : State :=
  let h := s.heater.resumed st saved
  setWant h.wantNow { s with heater := h.recompute s.rating s.chan.latest.base }

/-! ## Sample sets (R104, R109, R110, R112) -/

/-- The over-temperature test (R112): 1320 counts are 230 °C. -/
def overTempTest (set : SampleSet) (s : State) : State :=
  if 1320 ≤ set.base then
    reportIf (!s.heater.overTemp) .overtemp { s with heater := { s.heater.cutPeriod with overTemp := true } }
  else { s with heater := { s.heater with overTemp := false } }

/-- The elapsed ramp seconds and target-now after a counted second (R104, item 2). -/
def Heater.rampSecond (h : Heater) : Heater :=
  if h.rampBase.isSome && h.targetNow < 4 * h.target then
    { h with
      elapsed := h.elapsed + 1
      targetNow := rampedTarget h.target h.ramp (h.elapsed + 1) h.rampBase }
  else h

/-- The base is at or above the target minus 1 °C, by an in-range count (R109). -/
def nearTarget (target count : Nat) : Bool := tempInRange count && 4 * (target : Int) - 4 ≤ quarter count

/-- The base is below the target minus 4 °C, by an in-range count (R110). -/
def belowBand (target count : Nat) : Bool := tempInRange count && quarter count < 4 * (target : Int) - 16

/-- The economy state and count after a counted second (R109, R110). -/
def Heater.economySecond (h : Heater) (count : Nat) : Heater :=
  match h.economy with
  | .full =>
    if h.target ≠ 0 ∧ h.holdUnits < h.claimUnits then
      if nearTarget h.target count then
        if 29 ≤ h.economyCount then { h with economy := .economy, economyCount := 0 }
        else { h with economyCount := h.economyCount + 1 }
      else { h with economyCount := 0 }
    else h
  | .economy =>
    if belowBand h.target count then { h with economy := .full, economyCount := 0 } else h

/-- A second boundary counts for the step unless its set is the one handed over at the entry (R104, item 2). -/
def countedSecond (h : Heater) (set : SampleSet) : Bool := h.regulating && h.entrySample ≠ some set.seq

/-- A REGULATING heater's second boundary: the second counted, the entry sample absent (R104, item 2). -/
def heaterSecond (set : SampleSet) (s : State) : State :=
  if s.heater.regulating then
    let h := if countedSecond s.heater set then s.heater.rampSecond.economySecond set.base else s.heater
    setWant h.wantNow { s with heater := { h with entrySample := none } }
  else s

/-- A new burst period begins (R104, item 3); it begins cut over an open raw bowl input or an over-temperature set, and a
cut period applies nothing (log entry 11). -/
def Heater.newPeriod (h : Heater) (rating count : Nat) (seated : Bool) : Heater :=
  let h := { h with slotPos := 0, cut := false, periodRunning := true, applied := 0, onSlots := 0 }
  if 1320 ≤ count ∨ !seated then h.cutPeriod
  else if h.regulating then h.compute rating count
  else h

/-- The heater's operation at a sample set (R104). -/
def heaterSetOp (set : SampleSet) (s : State) : State :=
  let s := overTempTest set s
  if set.boundary then
    let s := heaterSecond set s
    { s with heater := s.heater.newPeriod s.rating set.base s.pins.bowlSeated }
  else s

/-- The sample set brings the economy count to 30 (R109). -/
def economyDue (h : Heater) (set : SampleSet) : Bool :=
  set.boundary && countedSecond h set && h.economy = .full &&
    (h.target ≠ 0 && h.holdUnits < h.claimUnits && nearTarget h.target set.base && 29 ≤ h.economyCount)

/-! ## Slots and cuts (R106, R107) -/

/-- A burst slot ends; after slot 24 the position stays until the boundary (R106, log entry 12). -/
def burstSlotOp (s : State) : State :=
  if s.heater.periodRunning then { s with heater := { s.heater with slotPos := min 24 (s.heater.slotPos + 1) } } else s

/-- The raw bowl-seated input opens (R107). -/
def bowlOpenHeaterOp (s : State) : State :=
  { s with pins := { s.pins with bowlSeated := false }, heater := s.heater.cutPeriod }

/-- The record after the heater takes usable units: a value below the applied units cuts the period (R107). -/
def Heater.take (h : Heater) (units : Nat) : Heater :=
  let h' := { h with usable := units }
  if units < h.applied then h'.cutPeriod else h'

/-- The heater takes the oldest value of the usable units handed over (R107). -/
def usableUnitsOp (s : State) : State :=
  match s.inbox.usables with
  | [] => s
  | units :: rest => { s with heater := s.heater.take units, inbox := { s.inbox with usables := rest } }

/-- HEAT_GATE (R106); low while RESET_N is low. -/
def heatGate (s : State) : Bool :=
  s.resetN && s.heater.regulating && !s.heater.cut && s.pins.bowlSeated && s.heater.slotPos < s.heater.onSlots

/-! ## Meanings -/

/-- HEATER_SAMPLE_SET (R104). -/
def execHeaterSampleSet (s : State) : Result := ran (takeHeaterSet heaterSetOp) s

/-- ECONOMY (R109): the heater's sample set, when it brings the economy count to 30 (log entry 3). -/
def execEconomy (s : State) : Result :=
  ran (fun s => match s.inbox.heater with
    | [] => s
    | set :: _ => if economyDue s.heater set then takeHeaterSet heaterSetOp s else s) s

/-- BURST_SLOT_END (R106). -/
def execBurstSlotEnd (s : State) : Result := ran burstSlotOp s

/-- RAW_BOWL_OPEN_HEATER (R107). -/
def execRawBowlOpenHeater (s : State) : Result := ran bowlOpenHeaterOp s

/-- USABLE_UNITS (R107). -/
def execUsableUnits (s : State) : Result := ran usableUnitsOp s

end Sys2Proof.Machine
end

