-- ==== Sys2Proof/Machine/Stirrer.lean ====
section
/-! DEFINITION. Machine/Stirrer.lean: the stirrer control: settings, the lid lock, speed, stall, patterns, cuts and the
lid switches (spec/06). -/

namespace Sys2Proof.Machine

/-! ## Levels (Table 6-2) -/

/-- The target speed of a level in rpm (Table 6-2). -/
def levelSpeed (level : Nat) : Nat :=
  match level with
  | 1 => 40
  | 2 => 70
  | 3 => 100
  | 4 => 150
  | 5 => 220
  | 6 => 300
  | 7 => 400
  | 8 => 520
  | 9 => 660
  | 10 => 820
  | 11 => 1000
  | 12 => 1200
  | _ => 0

/-- The start duty of a level in percent (Table 6-2). -/
def startDuty (level : Nat) : Nat := 8 * level

/-- A level that needs the lock (R116). -/
def needsLock (level : Nat) : Bool := 5 ≤ level

/-- The states in which the paddle is taken to move (R120). -/
def StirrerState.moving (t : StirrerState) : Bool := t = .spinup || t = .running || t = .intervalOff

/-- The pattern position is in an OFF phase. -/
def inOffPhase (pos : Option PatternPos) : Bool :=
  match pos with
  | none => false
  | some p => !p.on

/-! ## Motion (R119 item 5, R122, R124) -/

/-- The drive is started for the setting: INTERVAL_OFF in an OFF phase, else SPINUP (R119 item 5, R124). -/
def Stirrer.startDrive (t : Stirrer) : Stirrer :=
  let t := { t with drivenLevel := t.setting.level, drivenDirection := t.setting.direction }
  if inOffPhase t.patternPos then
    { t with state := .intervalOff, zeroCount := 0, duty := 0, spinTimer := .stopped }
  else
    { t with state := .spinup, duty := startDuty t.drivenLevel, stallCount := 0, spinTimer := .running }

/-- The stirrer goes to STOPPING; a lock request ends with it (R120, R122). -/
def Stirrer.goStopping (t : Stirrer) : Stirrer :=
  { t with state := .stopping, duty := 0, spinTimer := .stopped, lockTimer := .stopped, zeroCount := 0 }

/-! ## The lock (R121) -/

/-- The lock is sensed: the drive starts, or the stirrer waits in STOPPED for the bowl (R121). -/
def Stirrer.sensed (t : Stirrer) (seated : Bool) : Stirrer :=
  let t := { t with lockTimer := .stopped }
  if seated then t.startDrive else { t with state := .stopped }

/-- A lock request (R121). -/
def lockRequest (s : State) : State :=
  if s.chan.latest.lid then
    let t := { s.stirrer with lockDriven := true, state := .locking, lockTimer := .running }
    { s with stirrer := if s.pins.lidLocked then t.sensed s.pins.bowlSeated else t }
  else report .lid { s with stirrer := { s.stirrer with suspended := true, state := .stopped } }

/-- The stirrer in STOPPED acts on its setting (R119). -/
def actOnSetting (s : State) : State :=
  let t := s.stirrer
  let level := t.setting.level
  if t.suspended || level = 0 then s
  else if !needsLock level && t.lockDriven then s
  else if !s.pins.bowlSeated then s
  else if needsLock level && (!t.lockDriven || !s.pins.lidLocked) then lockRequest s
  else { s with stirrer := t.startDrive }

/-! ## Settings (R117, R120) -/

/-- The record after a setting handed over in a moving state (R120). -/
def Stirrer.change (t : Stirrer) : Stirrer :=
  let level := t.setting.level
  if level = 0 ∨ t.setting.direction ≠ t.drivenDirection ∨ needsLock level ≠ t.lockDriven then t.goStopping
  else if t.state = .intervalOff ∨ level ≠ t.drivenLevel then t.startDrive
  else t

/-- The record with a setting taken: it replaces the one before and clears the suspended flag (R117); a level of 5 or
above keeps the release count at 0 (R123). -/
def Stirrer.take (t : Stirrer) (setting : Setting) (pos : Option PatternPos) : Stirrer :=
  { t with
    setting := setting
    patternPos := pos
    suspended := false
    releaseCount := if needsLock setting.level then 0 else t.releaseCount }

/-- The engine hands the stirrer a setting with a pattern position (R117, R119, R120). -/
def giveSetting (setting : Setting) (pos : Option PatternPos) (s : State) : State :=
  let t := s.stirrer.take setting pos
  match t.state with
  | .stopped => actOnSetting { s with stirrer := t }
  | .stopping => { s with stirrer := t }
  | .locking => { s with stirrer := t.goStopping }
  | .spinup => { s with stirrer := t.change }
  | .running => { s with stirrer := t.change }
  | .intervalOff => { s with stirrer := t.change }

/-- The pattern position of a step entry (R117). -/
def entryPosition (setting : Setting) : Option PatternPos :=
  match setting.pattern with
  | .continuous => none
  | .interval => some ⟨true, setting.onSeconds⟩

/-- The engine hands the stirrer a stop: level 0, the rest of the setting kept (R117, log entry 24). -/
def giveStop (s : State) : State := giveSetting { s.stirrer.setting with level := 0 } s.stirrer.patternPos s

/-! ## Sample sets (R122 to R128) -/

/-- The lid-sense test, first in the operation of a sample set (R128). -/
def lidSenseTest (set : SampleSet) (s : State) : State :=
  reportIf (lidContradiction set && !s.stirrer.lidSense) .lidSense
    { s with stirrer := { s.stirrer with lidSense := lidContradiction set } }

/-- A count of consecutive sets at 0 rpm. -/
def stillCount (count : Nat) (set : SampleSet) : Nat := if set.tach = 0 then count + 1 else 0

/-- A sample set in STOPPING (R122). -/
def stoppingSet (set : SampleSet) (s : State) : State :=
  let n := stillCount s.stirrer.zeroCount set
  if 3 ≤ n then actOnSetting { s with stirrer := { s.stirrer with zeroCount := n, state := .stopped, releaseCount := 0 } }
  else { s with stirrer := { s.stirrer with zeroCount := n } }

/-- A sample set in STOPPED (R123). -/
def stoppedSet (set : SampleSet) (s : State) : State :=
  if s.stirrer.lockDriven && !needsLock s.stirrer.setting.level then
    let n := stillCount s.stirrer.releaseCount set
    if 5 ≤ n then actOnSetting { s with stirrer := { s.stirrer with lockDriven := false, releaseCount := 0 } }
    else { s with stirrer := { s.stirrer with releaseCount := n } }
  else s

/-- The duty after a sample set: 2 points up below 95 % of the target speed, 2 points down above 105 % (R124). -/
def dutyAfter (duty level tach : Nat) : Nat :=
  if 100 * rpm tach < 95 * levelSpeed level then min 100 (duty + 2)
  else if 105 * levelSpeed level < 100 * rpm tach then duty - 2
  else duty

/-- The record with its duty adjusted (R124). -/
def Stirrer.adjust (t : Stirrer) (set : SampleSet) : Stirrer :=
  { t with duty := dutyAfter t.duty t.drivenLevel set.tach }

/-- The speed is below 30 % of the driven level's target speed (R125). -/
def slow (t : Stirrer) (set : SampleSet) : Bool := 100 * rpm set.tach < 30 * levelSpeed t.drivenLevel

/-- A sample set in RUNNING: the stall test, then the duty (R124, R125). -/
def runningSet (set : SampleSet) (s : State) : State :=
  let t := s.stirrer
  if slow t set then
    if 9 ≤ t.stallCount then
      report .stall { s with stirrer := { t.goStopping with suspended := true, stallCount := 0 } }
    else { s with stirrer := { t.adjust set with stallCount := t.stallCount + 1 } }
  else { s with stirrer := { t.adjust set with stallCount := 0 } }

/-- The record at the end of a phase of an INTERVAL pattern (R126). -/
def Stirrer.phaseEnd (t : Stirrer) (on : Bool) : Stirrer :=
  if on then
    let t := { t with patternPos := some ⟨false, t.setting.offSeconds⟩ }
    if t.state = .spinup ∨ t.state = .running then
      { t with state := .intervalOff, duty := 0, spinTimer := .stopped, zeroCount := 0 }
    else t
  else
    let t := { t with patternPos := some ⟨true, t.setting.onSeconds⟩ }
    if t.state = .intervalOff then t.startDrive else t

/-- The record after a counted second of the pattern (R126). -/
def Stirrer.patternSecond (t : Stirrer) : Stirrer :=
  match t.patternPos with
  | none => t
  | some p => if p.left ≤ 1 then t.phaseEnd p.on else { t with patternPos := some ⟨p.on, p.left - 1⟩ }

/-- The part of the sample set's operation that depends on the state (R122 to R126). -/
def stirrerStateSet (set : SampleSet) (s : State) : State :=
  match s.stirrer.state with
  | .stopped => stoppedSet set s
  | .locking => s
  | .spinup => { s with stirrer := s.stirrer.adjust set }
  | .running => runningSet set s
  | .intervalOff => { s with stirrer := { s.stirrer with zeroCount := min 3 (stillCount s.stirrer.zeroCount set) } }
  | .stopping => stoppingSet set s

/-- The stirrer's operation at a sample set: the lid-sense test, the work of the state, and at a second boundary handled
in a moving state the second of the pattern (R126, R128, log entry 15). -/
def stirrerSetOp (set : SampleSet) (s : State) : State :=
  let counts := set.boundary && s.stirrer.state.moving
  let s := stirrerStateSet set (lidSenseTest set s)
  if counts then { s with stirrer := s.stirrer.patternSecond } else s

/-- The set makes the stirrer stall (R125). -/
def stallDue (t : Stirrer) (set : SampleSet) : Bool := t.state = .running && slow t set && 9 ≤ t.stallCount

/-- The set ends STOPPING (R122). -/
def stoppingEndDue (t : Stirrer) (set : SampleSet) : Bool :=
  t.state = .stopping && 3 ≤ stillCount t.zeroCount set

/-- The set releases the lock (R123). -/
def lockReleaseDue (t : Stirrer) (set : SampleSet) : Bool :=
  t.state = .stopped && t.lockDriven && !needsLock t.setting.level && 5 ≤ stillCount t.releaseCount set

/-- The set ends a phase (R126). -/
def phaseEndDue (t : Stirrer) (set : SampleSet) : Bool :=
  set.boundary && t.state.moving &&
    match t.patternPos with
    | none => false
    | some p => p.left ≤ 1

/-- The stirrer takes a sample set in a case a row names (log entry 3). -/
def stirrerCase (due : Stirrer → SampleSet → Bool) (s : State) : State :=
  match s.inbox.stirrer with
  | [] => s
  | set :: _ => if due s.stirrer set then takeStirrerSet stirrerSetOp s else s

/-! ## Raw events and timers (R121, R124, R127) -/

/-- The raw bowl-seated input opens (R127). -/
def bowlOpenStirrerOp (s : State) : State :=
  { s with
    pins := { s.pins with bowlSeated := false }
    stirrer := if s.stirrer.state.moving then s.stirrer.goStopping else s.stirrer }

/-- The raw bowl-seated input returns to seated (R127). -/
def bowlSeatedOp (s : State) : State :=
  if s.pins.bowlSeated then s
  else
    let s := { s with pins := { s.pins with bowlSeated := true } }
    if s.stirrer.state = .stopped then actOnSetting s else s

/-- The raw LID_LOCKED input changes to locked (R121). -/
def lockSensedOp (s : State) : State :=
  { s with
    pins := { s.pins with lidLocked := true }
    stirrer := if s.stirrer.state = .locking then s.stirrer.sensed s.pins.bowlSeated else s.stirrer }

/-- A drop of the raw LID_LOCKED input is acted on (R127). -/
def dropActs (t : Stirrer) : Bool := t.lockDriven && t.state ≠ .locking && needsLock t.setting.level

/-- The raw LID_LOCKED input changes from locked to not locked (R127). -/
def lockDroppedOp (s : State) : State :=
  if s.pins.lidLocked then
    let s := { s with pins := { s.pins with lidLocked := false } }
    if dropActs s.stirrer then
      let t := if s.stirrer.state.moving then s.stirrer.goStopping else s.stirrer
      report .lid { s with stirrer := { t with suspended := true } }
    else s
  else s

/-- The lock timer expires in LOCKING (R121). -/
def lockTimerOp (s : State) : State :=
  if s.stirrer.state = .locking ∧ s.stirrer.lockTimer = .running then
    report .lid { s with stirrer := { s.stirrer with
      lockDriven := false, suspended := true, state := .stopped, lockTimer := .stopped } }
  else s

/-- The spin-up timer expires in SPINUP (R124). -/
def spinTimerOp (s : State) : State :=
  if s.stirrer.state = .spinup ∧ s.stirrer.spinTimer = .running then
    { s with stirrer := { s.stirrer with state := .running, stallCount := 0, spinTimer := .stopped } }
  else s

/-! ## What the stirrer shows (R118, R129) -/

/-- The stirred level (R129). STOPPING entered from LOCKING (R120) stops no motion, and R129 names no level for it; the
model gives the level at which the drive was last started there too (log entry 41). -/
def Stirrer.stirredLevel (t : Stirrer) : Nat :=
  match t.state with
  | .stopped => 0
  | .locking => 0
  | .spinup => t.drivenLevel
  | .running => t.drivenLevel
  | .stopping => t.drivenLevel
  | .intervalOff => if t.zeroCount < 3 then t.drivenLevel else 0

/-- MOTOR_PWM in percent (R118); 0 while RESET_N is low (R115). -/
def motorPwm (s : State) : Nat :=
  if s.resetN && s.pins.bowlSeated && (s.stirrer.state = .spinup || s.stirrer.state = .running) then s.stirrer.duty else 0

/-- MOTOR_DIR: high for REVERSE (R118); low while RESET_N is low (R115). -/
def motorDir (s : State) : Bool := s.resetN && s.stirrer.drivenDirection = .reverse

/-- LOCK_DRIVE (R118); low while RESET_N is low (R115). -/
def lockDrive (s : State) : Bool := s.resetN && s.stirrer.lockDriven

/-! ## Meanings -/

/-- STIRRER_SAMPLE_SET (R122 to R128). -/
def execStirrerSampleSet (s : State) : Result := ran (takeStirrerSet stirrerSetOp) s

/-- STALL (R125): the stirrer's sample set, when it makes the stirrer stall (log entry 3). -/
def execStall (s : State) : Result := ran (stirrerCase stallDue) s

/-- STOPPING_END (R122): the stirrer's sample set, when it ends STOPPING (log entry 3). -/
def execStoppingEnd (s : State) : Result := ran (stirrerCase stoppingEndDue) s

/-- LOCK_RELEASE (R123): the stirrer's sample set, when it releases the lock (log entry 3). -/
def execLockRelease (s : State) : Result := ran (stirrerCase lockReleaseDue) s

/-- INTERVAL_PHASE_END (R126): the stirrer's sample set, when it ends a phase (log entry 3). -/
def execIntervalPhaseEnd (s : State) : Result := ran (stirrerCase phaseEndDue) s

/-- RAW_BOWL_OPEN_STIRRER (R127). -/
def execRawBowlOpenStirrer (s : State) : Result := ran bowlOpenStirrerOp s

/-- RAW_BOWL_SEATED (R127). -/
def execRawBowlSeated (s : State) : Result := ran bowlSeatedOp s

/-- LOCK_SENSED (R121). -/
def execLockSensed (s : State) : Result := ran lockSensedOp s

/-- LOCK_DROPPED (R127). -/
def execLockDropped (s : State) : Result := ran lockDroppedOp s

/-- LOCK_TIMER_EXPIRY (R121). -/
def execLockTimerExpiry (s : State) : Result := ran lockTimerOp s

/-- SPINUP_TIMER_EXPIRY (R124). -/
def execSpinupTimerExpiry (s : State) : Result := ran spinTimerOp s

end Sys2Proof.Machine
end

