-- ==== Sys2Proof/Machine/Scale.lean ====
section
/-! DEFINITION. Machine/Scale.lean: the scale: weights, steadiness, the phases of a WEIGH step, holds, TARE and SETUP
(spec/07). -/

namespace Sys2Proof.Machine

/-! ## Phases handed over by the engine (R135, R137) -/

/-- The record at the entry of a WEIGH step (R135), with the number of sets still to reach the scale that the engine has
handled already or is handling (R29). -/
def Scale.beginWeigh (c : Scale) (target tolerance early : Nat) : Scale :=
  { c with
    phase := .settle
    suspended := false
    target := target
    tolerance := tolerance
    reReference := none
    added := none
    overTarget := none
    reported := false
    early := early }

/-- The record with no weigh phase (R135). -/
def Scale.noPhase (c : Scale) : Scale :=
  { c with
    phase := .none
    suspended := false
    target := 0
    tolerance := 0
    reReference := none
    added := none
    overTarget := none
    reported := false
    early := 0 }

/-- What the scale hands the saved context at an entry to HOLD (R137). -/
def Scale.save (c : Scale) : SavedWeigh :=
  match c.phase, c.reReference with
  | .settle, some w => ⟨.add, c.reference, some w⟩
  | .settle, none => ⟨.settle, c.reference, none⟩
  | .add, _ => ⟨.add, c.reference, c.added⟩
  | .none, _ => ⟨.none, c.reference, none⟩

/-- The record suspended by a hold (R137). -/
def Scale.suspend (c : Scale) : Scale := { c with suspended := true, reported := false }

/-- The record after a RESUME of a WEIGH step (R137). -/
def Scale.resume (c : Scale) (saved : SavedWeigh) (lifted : Bool) : Scale :=
  let r := { c with suspended := false, reported := false, reference := saved.reference }
  match saved.phase with
  | .none => r
  | .settle => { r with phase := .settle, reReference := none }
  | .add =>
    if lifted || c.reReference.isSome then { r with phase := .settle, reReference := saved.added }
    else { r with phase := .add, added := saved.added }

/-- The sets that wait at the scale and no longer at the engine: those the engine has handled or is handling (R29). -/
def setsBehind (s : State) : Nat := s.inbox.scale.length - s.inbox.engine.length

/-- The engine begins the weigh phase of a step, or ends it for any other step (R135). -/
def scaleEnter (st : StepRec) (s : State) : State :=
  match st.kind with
  | .weigh target tolerance => { s with scale := s.scale.beginWeigh target tolerance (setsBehind s) }
  | .time _ _ => { s with scale := s.scale.noPhase }
  | .temp _ => { s with scale := s.scale.noPhase }
  | .mark _ _ => { s with scale := s.scale.noPhase }
  | .confirm => { s with scale := s.scale.noPhase }
  | .holdAbove _ _ => { s with scale := s.scale.noPhase }

/-- The engine ends the phase (R135). -/
def scaleEnd (s : State) : State := { s with scale := s.scale.noPhase }

/-! ## Sample sets (R132 to R138) -/

/-- The counts of a weight: times the counts per kg over 1000, rounded away from zero (R137). -/
def weightCounts (weight : Int) (cpk : Nat) : Int :=
  if 0 ≤ weight then (weight * cpk + 999) / 1000 else -((-weight * cpk + 999) / 1000)

/-- The reference that gives a set's count a net weight, held within 0 to 65535 (R137). -/
def referenceFor (count : Nat) (weight : Int) (cpk : Nat) : Nat :=
  (max 0 (min 65535 ((count : Int) - weightCounts weight cpk))).toNat

/-- The test of an added weight (R136 item 3): at or above the target minus the tolerance, not yet reported. -/
def satisfiedTest (s : State) : State :=
  match s.scale.added with
  | none => s
  | some w =>
    if (s.scale.target : Int) - s.scale.tolerance ≤ w && !s.scale.reported then
      report .addSatisfied { s with scale := { s.scale with reported := true } }
    else s

/-- The reference of a step is taken in SETTLE (R135); log entry 31. -/
def plainReference (count : Nat) (s : State) : State :=
  noteAdded { s with scale := { s.scale with
    reference := count, phase := .add, added := some 0, overTarget := some false } }

/-- The reference that restores an added weight is taken in SETTLE, and the set is tested (R137). -/
def reReference (count : Nat) (weight : Int) (s : State) : State :=
  satisfiedTest <| noteAdded { s with scale := { s.scale with
    reference := referenceFor count weight s.handler.cpk, phase := .add, added := some weight, reReference := none } }

/-- The over-target flag after an added weight (R136 item 2). -/
def overAfter (c : Scale) (net : Int) : Option Bool :=
  if (c.target : Int) + c.tolerance < net then some true else c.overTarget

/-- A steady set in ADD (R136). -/
def addSet (count : Nat) (s : State) : State :=
  let net := grams count s.scale.reference s.handler.cpk
  satisfiedTest <| noteAdded { s with scale := { s.scale with added := some net, overTarget := overAfter s.scale net } }

/-- The work of the phase at a steady set in phase mode ACTIVE (R135 to R137). -/
def phaseWork (count : Nat) (s : State) : State :=
  match s.scale.phase, s.scale.reReference with
  | .none, _ => s
  | .settle, none => plainReference count s
  | .settle, some w => reReference count w s
  | .add, _ => addSet count s

/-- The record with a set that has a weight: latest values, history and steady flag (R132, R133). -/
def Scale.weigh (c : Scale) (count : Nat) (gross : Int) (stirred : Nat) : Scale :=
  let history := pushWeight c.history gross
  { c with
    latestCount := some count
    latestGross := some gross
    history := history
    steady := isSteady history stirred }

/-- The weight test for the SCALE cause, last in the operation (R138). -/
def weightTest (gross : Int) (s : State) : State :=
  reportIf (s.scale.phase ≠ .none && 15000 < gross) .overweight s

/-- The record with its latest values, history and steady flag after a set (R132, R133). -/
def Scale.weighSet (c : Scale) (set : SampleSet) (zeroCount cpk stirred : Nat) : Scale :=
  if hasWeight cpk set.wgt then c.weigh set.wgt (grams set.wgt zeroCount cpk) stirred
  else { c with history := [], steady := false }

/-- The set is used for the phase: steady, phase mode ACTIVE, and come after the entry of the WEIGH step in the engine
(R29, R135, R136, R140, log entry 38). -/
def Scale.uses (c : Scale) : Bool := c.steady && !c.suspended && c.early = 0

/-- The work of the phase at a set with a weight, and the weight test (R135 to R138). -/
def phaseSet (set : SampleSet) (s : State) : State :=
  if hasWeight s.handler.cpk set.wgt then
    weightTest (grams set.wgt s.handler.zero s.handler.cpk) (if s.scale.uses then phaseWork set.wgt s else s)
  else s

/-- One set more has reached the scale (log entry 38). -/
def countEarly (s : State) : State := { s with scale := { s.scale with early := s.scale.early - 1 } }

/-- The scale's operation at a sample set (R132). -/
def scaleSetOp (set : SampleSet) (s : State) : State :=
  countEarly <| phaseSet set
    { s with scale := s.scale.weighSet set s.handler.zero s.handler.cpk s.stirrer.stirredLevel }

/-! ## SETUP and TARE (R131, R139) -/

/-- The record after a SETUP (R131). -/
def Scale.setup (c : Scale) (zeroCount : Nat) : Scale :=
  { c with reference := zeroCount, history := [], steady := false, latestCount := none, latestGross := none }

/-- The record after a TARE: a steady set is the latest set with a weight (R139). -/
def Scale.tare (c : Scale) : Scale :=
  match c.latestCount with
  | none => c
  | some count => { c with reference := count }

/-! ## Meanings -/

/-- SCALE_SAMPLE_SET (R132). -/
def execScaleSampleSet (s : State) : Result := ran (takeScaleSet scaleSetOp) s

end Sys2Proof.Machine
end

