-- ==== Sys2Proof/Machine/Engine.lean ====
section
/-! DEFINITION. Machine/Engine.lean: the step engine: step entry and exit, sample sets, timeouts, holds, faults, and the
operations of its commands (spec/02, spec/04), with the slots it is lent (R14, R15) and the marks it raises (R157). -/

namespace Sys2Proof.Machine

/-! ## Slots and marks under the engine (R14, R15, R157) -/

/-- The state of a slot is set. -/
def setSlotState (k : Fin 4) (st : SlotState) (s : State) : State :=
  { s with slots := s.slots.set k.val { s.slots[k] with state := st } }

/-- The current slot becomes READY as the engine leaves RUN and HOLD (R15). -/
def returnSlot (s : State) : State :=
  match s.engine.slot with
  | none => s
  | some k => setSlotState k .ready s

/-- The slots as a START leaves them: the named slot RUNNING, another that was RUNNING READY (R14). -/
def lentSlots (slots : Vector Slot 4) (k : Fin 4) : Vector Slot 4 :=
  Vector.ofFn fun i =>
    if i = k then { slots[i] with state := .running }
    else if slots[i].state = .running then { slots[i] with state := .ready }
    else slots[i]

/-- The set of one mark. -/
def markBit (m : Fin 32) : MarkSet := 1#32 <<< m.val

/-- The board raises an own mark, and a MARK with the whole own set is queued (R157). -/
def raiseMark (m : Fin 32) (s : State) : State :=
  let own := s.board.own ||| markBit m
  setMarkSlot (some ⟨s.engine.tag, own⟩) { s with board := ⟨s.board.rows.set s.own.val own, own⟩ }

/-- The board as a START takes it: every row and the own set empty, a waiting MARK withdrawn (R153). -/
def clearBoard (s : State) : State := setMarkSlot none { s with board := .reset }

/-! ## The record (Table 2-1, Table 2-4) -/

/-- The step phase at entry (Table 2-4). -/
def EndKind.entryPhase : EndKind → Phase
  | .time false _ => .counting
  | .time true _ => .approaching
  | .temp _ => .approaching
  | .weigh _ _ => .weighing
  | .mark _ _ => .waiting
  | .confirm => .waiting
  | .holdAbove _ _ => .accumulating

/-- The record of a step just entered (R29 items 4 and 5, R30). -/
def Engine.enter (e : Engine) (st : StepRec) (count : Nat) : Engine :=
  { e with
    phase := st.kind.entryPhase
    approach := approachOf st.target count
    atTemp := false
    duration := 0
    timeout := 0
    accumulator := 0
    dip := 0
    prompt := st.prompt }

/-- The record without a current step (R22, R42, R44, R95). -/
def Engine.clearStep (e : Engine) : Engine :=
  { e with
    phase := .none
    approach := none
    atTemp := false
    duration := 0
    timeout := 0
    accumulator := 0
    dip := 0
    prompt := 0 }

/-! ## Holds (R79 to R92) -/

/-- The saved context written at an entry to HOLD (R87). -/
def saveContext (cause : HoldCause) (s : State) : SavedContext where
  slot := s.engine.slot
  index := s.engine.index
  phase := s.engine.phase
  approach := s.engine.approach
  atTemp := s.engine.atTemp
  duration := s.engine.duration
  timeout := s.engine.timeout
  accumulator := s.engine.accumulator
  dip := s.engine.dip
  targetNow := s.heater.targetNow
  ramp := s.heater.rampBase.map fun base => (base, s.heater.elapsed)
  economy := s.heater.economy
  patternPos := s.stirrer.patternPos
  weigh := if curIs s StepRec.isWeigh then some s.scale.save else none
  lifted := cause = .bowl

/-- The scale is told that its phase is suspended; it has one in a WEIGH step (R86 item 5, R137). -/
def scaleSuspend (s : State) : State :=
  if curIs s StepRec.isWeigh then { s with scale := s.scale.suspend } else s

/-- HOLD is entered from RUN with a cause (R86). -/
def enterHold (cause : HoldCause) (s : State) : State :=
  { s with engine := { s.engine with
      state := .hold
      causes := HoldSet.empty.add cause
      saved := some (saveContext cause s) } }
    |> heaterOff |> giveStop |> scaleSuspend |> noteEvent (.hold cause) |> countHold

/-- A cause is added in HOLD (R88). -/
def addHold (cause : HoldCause) (s : State) : State :=
  let saved := s.engine.saved.map fun c => { c with lifted := c.lifted || cause = .bowl }
  if s.engine.causes.has cause then { s with engine := { s.engine with saved := saved } }
  else noteEvent (.hold cause)
    { s with engine := { s.engine with saved := saved, causes := s.engine.causes.add cause } }

/-- A hold cause reaches the engine (R79). -/
def raiseHold (cause : HoldCause) (s : State) : State :=
  match s.engine.state with
  | .run => enterHold cause s
  | .hold => addHold cause s
  | .unready => s
  | .idle => s
  | .ended => s
  | .fault => s

/-- The scale as a RESUME hands it back (R90 item 4, R137). -/
def scaleResume (saved : SavedContext) (s : State) : State :=
  match saved.weigh with
  | none => { s with scale := s.scale.noPhase }
  | some w => { s with scale := s.scale.resume w saved.lifted }

/-- The record restored from the saved context (R90 items 1 and 5). -/
def Engine.restore (e : Engine) (saved : SavedContext) : Engine :=
  { e with
    state := .run
    phase := saved.phase
    approach := saved.approach
    atTemp := saved.atTemp
    duration := saved.duration
    timeout := saved.timeout
    accumulator := saved.accumulator
    dip := saved.dip
    causes := .empty
    saved := none }

/-- A RESUME whose conditions are met (R90). -/
def resumeStep (st : StepRec) (saved : SavedContext) (s : State) : State :=
  { s with engine := s.engine.restore saved }
    |> heaterResume st saved |> giveSetting st.setting saved.patternPos |> scaleResume saved |> noteEvent .resumed

/-! ## Step entry and exit (R29, R41, R42, R85) -/

/-- The step at the step index is entered (R29). -/
def enterStep (st : StepRec) (s : State) : State :=
  let s := openEntry s |> heaterSetpoint st |> giveSetting st.setting (entryPosition st.setting) |> scaleEnter st
  { s with engine := s.engine.enter st s.chan.latest.base }

/-- Step entry made in RUN, with the test of the standing conditions at its end (R29, R85). -/
def stepEntry (s : State) : State :=
  match curStep s with
  | none => s
  | some st =>
    let s := enterStep st s
    (standingCauses s st).foldl (fun s cause => raiseHold cause s) s

/-- The step count of the current slot. -/
def stepCount (s : State) : Nat :=
  match s.engine.slot with
  | none => 0
  | some k => s.slots[k].count

/-- The run ends after its last step (R42). -/
def runEnded (s : State) : State :=
  let s := { s with engine := { s.engine.clearStep with state := .ended, index := stepCount s } }
  returnSlot s |> heaterOff |> giveStop

/-- The raise mark of the step, if present, is raised (R41 item 1). -/
def raiseOf (st : StepRec) (s : State) : State :=
  match st.raise with
  | none => s
  | some m => raiseMark m s

/-- The current step ends with a cause and the engine moves on (R41). -/
def stepExit (cause : EndCause) (st : StepRec) (s : State) : State :=
  let s := raiseOf st s |> closeEntry cause |> scaleEnd
  if s.engine.index + 1 < stepCount s then
    stepEntry { s with engine := { s.engine with index := s.engine.index + 1 } }
  else runEnded s

/-! ## START and ABORT (R26, R44) -/

/-- The run under way is superseded (R26 item 1). -/
def supersede (s : State) : State :=
  if s.engine.state.active then
    closeEntry .superseded { s with engine := { s.engine with saved := none, causes := .empty } }
  else s

/-- A START that passed its checks (R26). -/
def startRun (k : Fin 4) (tag : Byte) (mask : StationSet) (s : State) : State :=
  let s := supersede s
  let s := clearBoard { s with
    slots := lentSlots s.slots k
    engine := { s.engine with tag := tag, mask := mask } }
  stepEntry { s with engine := { s.engine with clock := 0, slot := some k, index := 0, state := .run } }

/-- An ABORT in RUN or HOLD (R44). -/
def abortRun (s : State) : State :=
  let s := closeEntry .aborted s
  let s := { s with engine := { s.engine.clearStep with state := .idle, saved := none, causes := .empty } }
  returnSlot s |> heaterOff |> giveStop |> scaleEnd

/-! ## Faults (R94 to R97) -/

/-- The run under way ends with a fault (R95 item 1). -/
def faultRun (s : State) : State :=
  if s.engine.state.active then
    closeEntry .faulted (returnSlot { s with engine := { s.engine with saved := none, causes := .empty } })
  else s

/-- A fault is latched (R95). -/
def latchFault (code : FaultCode) (s : State) : State :=
  let s := faultRun s |> heaterOff |> giveStop |> scaleEnd
  noteEvent (.fault code) { s with engine := { s.engine.clearStep with state := .fault, fault := some code } }

/-- A fault condition is reported: latched, or written FAULT_AGAIN in FAULT (R94, R96). -/
def faultReport (code : FaultCode) (s : State) : State :=
  if s.engine.state = .fault then noteEvent (.faultAgain code) s else latchFault code s

/-- The engine tests the standing of faults in the order of Table 4-4 (R94, R97). -/
def testFaults (codes : List FaultCode) (s : State) : State :=
  codes.foldl (fun s code => if standing s code then faultReport code s else s) s

/-- A CLEAR whose condition is met (R97). -/
def clearFault (latched : FaultCode) (s : State) : State :=
  noteEvent .cleared { s with engine := { s.engine with fault := none, state := .idle } }
    |> testFaults (allFaults.filter (· ≠ latched))

/-! ## Sample sets (R31 to R39, R46) -/

/-- The target test of R31 item 3. -/
def Engine.targetTest (e : Engine) (target : Nat) (set : SampleSet) : Engine :=
  if !e.atTemp && targetReached e.approach target set.base then
    { e with atTemp := true, phase := if e.phase = .approaching then .counting else e.phase }
  else e

/-- The count of the channel a HOLD_ABOVE step uses, none under its range condition or out of range (R37). -/
def holdAboveCount (s : State) (set : SampleSet) : Option Nat :=
  let (count, out) := if s.handler.probe then (set.food, s.chan.foodRange.present) else (set.base, s.chan.baseRange.present)
  if out || !tempInRange count then none else some count

/-- The accumulator and the dip count after a boundary (R37). -/
def Engine.accumulate (e : Engine) (threshold : Nat) (reading : Option Nat) : Engine :=
  match reading with
  | none => e
  | some count =>
    if 4 * (threshold : Int) ≤ quarter count then { e with accumulator := e.accumulator + 1, dip := 0 }
    else if 10 ≤ e.dip then { e with accumulator := 0, dip := 11 }
    else { e with dip := e.dip + 1 }

/-- The phase's counters at a second boundary, by the phase that stood before the target test (R31 item 4). -/
def phaseCount (before : Phase) (st : StepRec) (s : State) (set : SampleSet) (e : Engine) : Engine :=
  match before, st.kind with
  | .counting, _ => { e with duration := min 65535 (e.duration + 1) }
  | .accumulating, .holdAbove threshold _ => e.accumulate threshold (holdAboveCount s set)
  | _, _ => e

/-- The run clock after a counted second (R46). -/
def Engine.tick (e : Engine) : Engine := { e with clock := min 16777215 (e.clock + 1) }

/-- The record after items 1 to 4 of R31 in RUN. -/
def runCounts (st : StepRec) (set : SampleSet) (s : State) : Engine :=
  let e := if set.boundary then { s.engine.tick with timeout := min 65535 (s.engine.timeout + 1) } else s.engine
  let e := e.targetTest st.target set
  if set.boundary then phaseCount s.engine.phase st s set e else e

/-- The state after the peak and items 1 to 4 of R31 in RUN (log entry 22). -/
def engineProgress (st : StepRec) (set : SampleSet) (s : State) : State :=
  notePeak set.base { s with engine := runCounts st set s }

/-- The end condition at a sample set (R32 to R37). -/
def endMet (st : StepRec) (s : State) : Bool :=
  match st.kind with
  | .time _ seconds => s.engine.phase = .counting && s.engine.duration = seconds
  | .temp seconds => s.engine.phase = .counting && s.engine.duration = seconds
  | .weigh _ _ => false
  | .mark station m => s.board.rows[station].getLsbD m.val
  | .confirm => false
  | .holdAbove _ seconds => s.engine.accumulator = seconds

/-- The timeout falls due at a boundary (R39). -/
def timeoutDue (st : StepRec) (set : SampleSet) (s : State) : Bool :=
  set.boundary && st.timeout ≠ 0 && s.engine.timeout = st.timeout

/-- The timeout acts (R39). -/
def timeoutAct (st : StepRec) (s : State) : State :=
  if st.continues then stepExit .timedOut st s else latchFault .stepTimeout s

/-- The engine's operation at a sample set in RUN (R31). -/
def runSet (st : StepRec) (set : SampleSet) (s : State) : State :=
  let s := engineProgress st set s
  if endMet st s then stepExit .completed st s
  else if timeoutDue st set s then timeoutAct st s
  else s

/-- The engine's operation at a sample set in HOLD: the run clock and the peak (R43, R46, R161). -/
def holdSet (set : SampleSet) (s : State) : State :=
  notePeak set.base (if set.boundary then { s with engine := s.engine.tick } else s)

/-- The engine's operation at a sample set (R31). -/
def engineSetOp (set : SampleSet) (s : State) : State :=
  match s.engine.state with
  | .run => match curStep s with
    | none => s
    | some st => runSet st set s
  | .hold => holdSet set s
  | .unready => s
  | .idle => s
  | .ended => s
  | .fault => s

/-- The engine takes a sample set in RUN in a case a row names (log entry 3). -/
def engineCase (due : StepRec → SampleSet → State → Bool) (s : State) : State :=
  match s.inbox.engine, curStep s with
  | d :: _, some st =>
    if s.engine.state = .run && due st d.set { s with chan := s.chan.asDelivered d } then takeEngineSet engineSetOp s else s
  | _, _ => s

/-- The set ends a TIME or TEMP step (R32 to R34). -/
def durationDue (st : StepRec) (set : SampleSet) (s : State) : Bool :=
  st.isTimed && endMet st (engineProgress st set s)

/-- The set ends a HOLD_ABOVE step (R37). -/
def holdAboveDue (st : StepRec) (set : SampleSet) (s : State) : Bool :=
  st.isHoldAbove && endMet st (engineProgress st set s)

/-- The set brings the dip count to 11 (R37). -/
def dipDue (st : StepRec) (set : SampleSet) (s : State) : Bool :=
  st.isHoldAbove && s.engine.dip ≠ 11 && (runCounts st set s).dip = 11

/-- The set brings the step's timeout (R39). -/
def timeoutCase (st : StepRec) (set : SampleSet) (s : State) : Bool :=
  !endMet st (engineProgress st set s) && timeoutDue st set (engineProgress st set s)

/-! ## Reports (R35, R81 to R84, R94) -/

/-- A report for a cause that the current step must suit (R83, R84). -/
def raiseWhen (cause : HoldCause) (suits : State → Bool) (s : State) : State :=
  if suits s then raiseHold cause s else s

/-- PROBE suits a HOLD_ABOVE step with the probe fitted (R84). -/
def probeSuits (s : State) : Bool := s.handler.probe && curIs s StepRec.isHoldAbove

/-- SCALE suits a WEIGH step (R84). -/
def scaleSuits (s : State) : Bool := curIs s StepRec.isWeigh

/-- POWER suits a step with claim units (R83). -/
def powerSuits (s : State) : Bool := curIs s fun st => 0 < st.claimUnits

/-- The scale's report that ADD is satisfied still applies (R35, R136). -/
def addApplies (s : State) : Bool :=
  s.engine.state = .run && curIs s StepRec.isWeigh && s.scale.phase = .add && !s.scale.suspended && s.scale.reported

/-- The engine takes the report that ADD is satisfied (R35). -/
def addSatisfiedOp (s : State) : State :=
  match curStep s with
  | none => s
  | some st => if addApplies s then stepExit .completed st s else s

/-! ## Meanings -/

/-- ENGINE_SAMPLE_SET (R31). -/
def execEngineSampleSet (s : State) : Result := ran (takeEngineSet engineSetOp) s

/-- DURATION_END (R32): the engine's sample set, when it ends a TIME or TEMP step (log entry 3). -/
def execDurationEnd (s : State) : Result := ran (engineCase durationDue) s

/-- HOLD_ABOVE_REACHED (R37): the engine's sample set, when it ends a HOLD_ABOVE step (log entry 3). -/
def execHoldAboveReached (s : State) : Result := ran (engineCase holdAboveDue) s

/-- DIP_RESET (R37): the engine's sample set, when it brings the dip count to 11 (log entry 3). -/
def execDipReset (s : State) : Result := ran (engineCase dipDue) s

/-- TIMEOUT (R39): the engine's sample set, when the timeout falls due at it (log entry 3). -/
def execTimeout (s : State) : Result := ran (engineCase timeoutCase) s

/-- BOWL_REPORT (R82). -/
def execBowlReport (s : State) : Result := ran (takeReport .bowl (raiseHold .bowl)) s

/-- PROBE_REPORT (R84). -/
def execProbeReport (s : State) : Result := ran (takeReport .probe (raiseWhen .probe probeSuits)) s

/-- SCALE_REPORT (R84). -/
def execScaleReport (s : State) : Result := ran (takeReport .scale (raiseWhen .scale scaleSuits)) s

/-- OVERWEIGHT (R138). -/
def execOverweight (s : State) : Result := ran (takeReport .overweight (raiseWhen .scale scaleSuits)) s

/-- SENSOR (R94). -/
def execSensor (s : State) : Result := ran (takeReport .sensor (faultReport .sensor)) s

/-- OVERTEMP (R94, R112). -/
def execOvertemp (s : State) : Result := ran (takeReport .overtemp (faultReport .overtemp)) s

/-- LID_REPORT (R81). -/
def execLidReport (s : State) : Result := ran (takeReport .lid (raiseHold .lid)) s

/-- STALL_REPORT (R81). -/
def execStallReport (s : State) : Result := ran (takeReport .stall (raiseHold .stall)) s

/-- LID_SENSE (R94, R128). -/
def execLidSense (s : State) : Result := ran (takeReport .lidSense (faultReport .lidSense)) s

/-- ADD_SATISFIED (R35). -/
def execAddSatisfied (s : State) : Result := ran (takeReport .addSatisfied addSatisfiedOp) s

/-- LOST_POWER (R83). -/
def execLostPower (s : State) : Result := ran (takeReport .lostPower (raiseWhen .power powerSuits)) s

/-- BUDGET_MISMATCH (R60, R94). -/
def execBudgetMismatch (s : State) : Result := ran (takeReport .budgetMismatch (faultReport .config)) s

/-- BARRED (R94, R178). -/
def execBarred (s : State) : Result := ran (takeReport .barred (faultReport .barred)) s

end Sys2Proof.Machine
end

