-- ==== Sys2Proof/Machine/Reset.lean ====
section
/-! DEFINITION. Machine/Reset.lean: reset, the assertion of RESET_N, and the restart of every block (R166, R186). -/

namespace Sys2Proof.Machine

/-- The block after the release of RESET_N, its queue and free counter kept (R166, each chapter's reset rule). -/
def resetOp (straps : Straps) (pins : PinLevels) (s : State) : State :=
  { State.afterReset straps pins (parityGood straps) with freeCount := s.freeCount, pending := s.pending }

/-- The line controller after a RESTART: LISTEN, or BARRED kept; an own frame on the line is sent to its end (R166). What
the station drove in the verdict cells of the frame last received stays (R170, log entry 29). -/
def Line.restarted (l : Line) : Line :=
  { (if l.participation = .barred then Line.resetBarred else Line.reset) with
    finishing := match l.onLine with
      | none => l.finishing
      | some f => some f.frame
    verdict := l.verdict }

/-- The pins as a RESTART reads them (R141): BOWL_SEATED and LID_LOCKED stand as the raw events left them, and no command
shows LID_CLOSED and the frequency pins at that moment, so that they are free (log entry 39). -/
def pinsAtRestart (p : PinLevels) (free : Byte) : PinLevels where
  bowlSeated := p.bowlSeated
  lidClosed := free.getLsbD 0
  lidLocked := p.lidLocked
  wgt := free.getLsbD 1
  base := free.getLsbD 2
  food := free.getLsbD 3
  tach := free.getLsbD 4

/-- Every block at its state after RESTART; the straps are kept (R186, each chapter's reset rule). -/
def restartBlocks (s : State) : State :=
  { State.afterReset s.straps (pinsAtRestart s.pins s.nextFree.1) true with
    resetN := s.resetN
    line := s.line.restarted
    freeCount := s.nextFree.2.freeCount
    pending := s.pending }

/-- The RESTART carried out; at UNREADY the engine tests the standing faults (R19, R94, R186). -/
def restart (s : State) : State := testFaults allFaults (restartBlocks s)

/-- A RESTART whose REPLY has just been taken or dropped is carried out (R186). -/
def restartAfter (replied : Bool) (s : State) : State :=
  if replied && s.handler.restartPending then restart s else s

/-- RESET_N goes low; the straps are sampled (R115, section 0.6). -/
def resetAssertedOp (straps : Straps) (s : State) : State := { s with resetN := false, straps := straps }

/-! ## Meanings -/

/-- RESET (R166): the release of RESET_N, whatever stood before. -/
def execReset (straps : Straps) (pins : PinLevels) (s : State) : Result := .next (resetOp straps pins s)

/-- RESET_ASSERTED (R115). -/
def execResetAsserted (straps : Straps) (s : State) : Result := .next (resetAssertedOp straps s)

end Sys2Proof.Machine
end

