-- ==== Sys2Proof/Machine/Share.lean ====
section
/-! DEFINITION. Machine/Share.lean: the share unit: the share table in LIVE and in LISTEN, evictions, usable units, claim
reviews, silence and leaving LIVE (spec/03). -/

namespace Sys2Proof.Machine

/-! ## Rows (R53 to R59, R72 to R74) -/

/-- A row created for a station just heard (R54, R59, R72, R73). -/
def Row.created : Row := ⟨.present, 0, 0, true, .running⟩

/-- The row that a CLAIM or PRESENCE of a peer applies to: an ABSENT row is first created. -/
def Row.orCreated (r : Row) : Row := if r.status = .absent then .created else r

/-- A want as recorded: above 25 it is 25 (R53). -/
def recordedWant (want : Byte) : Nat := min 25 want.toNat

/-- The station takes part in the share table's changes: LIVE or LISTEN (R53, R78). -/
def Participation.hears (p : Participation) : Bool := p = .live || p = .listen

/-- The source of a taken frame of any kind: a PRESENT row's silence timer restarts, and the station leaves the pending
evict mask (R53). -/
def heardFrom (src : Station) (s : State) : State :=
  let row := s.share.rows[src]
  if s.line.participation.hears && row.status = .present then
    dropPending src (setRow src { row with silence := .running } s)
  else s

/-- The row after a CLAIM in LIVE (R54). -/
def claimedRow (budget : Nat) (rows : Vector Row 16) (src : Station) (requested want : Byte) : Row :=
  let row := rows[src].orCreated
  { row with
    grant := grantAfterClaim budget (otherGrants rows src) requested.toNat row.grant
    want := recordedWant want }

/-- The row after a CLAIM in LISTEN (R73). -/
def listenedClaimRow (row : Row) (requested want : Byte) : Row :=
  let row := row.orCreated
  if requested.toNat ≤ row.grant then
    { row with grant := requested.toNat, want := recordedWant want, settled := true }
  else { row with want := recordedWant want, settled := false }

/-- A peer's CLAIM at the share table (R54, R73). -/
def claimOp (src : Station) (requested want : Byte) (s : State) : State :=
  match s.line.participation with
  | .live => setRow src (claimedRow s.budget s.share.rows src requested want) s
  | .listen => setRow src (listenedClaimRow s.share.rows[src] requested want) s
  | .lineFault => s
  | .barred => s

/-- The own CLAIM, taken: the own grant takes its result, usable units are recomputed (R56). -/
def ownClaimTaken (c : ClaimFrame) (s : State) : State :=
  refreshUsable <| setOwnGrant
    (grantAfterClaim s.budget (otherGrants s.share.rows s.own) c.requested s.ownRow.grant) s

/-- The table without the rows an EVICT names; the own row stays (R57, R74). -/
def evictedRows (rows : Vector Row 16) (own : Station) (mask : StationSet) : Vector Row 16 :=
  Vector.ofFn fun i => if i ≠ own ∧ mask.getLsbD i.val then Row.absent else rows[i]

/-- An EVICT names the own station, in LIVE (R58). -/
def ownEviction (src : Station) (s : State) : State :=
  setOwnGrant 0 s |> setClaimSlot none |> setUsable 0 |> noteEvent (.evicted src) |> report .lostPower

/-- An EVICT in LIVE (R57, R58). -/
def evictLive (src : Station) (mask : StationSet) (s : State) : State :=
  let t := setPendingEvict (s.share.pendingEvict &&& ~~~mask)
    { s with share := { s.share with rows := evictedRows s.share.rows s.own mask } }
  if mask.getLsbD s.own.val then ownEviction src t else t

/-- An EVICT in LISTEN (R58, R74). -/
def evictListen (src : Station) (mask : StationSet) (s : State) : State :=
  let t := { s with share := { s.share with rows := evictedRows s.share.rows s.own mask } }
  if mask.getLsbD s.own.val then noteEvent (.evicted src) t else t

/-- An EVICT at the share unit (R57, R74). -/
def evictOp (src : Station) (mask : StationSet) (s : State) : State :=
  match s.line.participation with
  | .live => evictLive src mask s
  | .listen => evictListen src mask s
  | .lineFault => s
  | .barred => s

/-- The budget code of a PRESENCE, bits 4 to 2 of byte 1 (Table 11-5). -/
def budgetCode (codes : Byte) : Nat := codes.toNat / 4 % 8

/-- The budget check: a sender with another code is reported once (R60). -/
def budgetCheck (src : Station) (codes : Byte) (s : State) : State :=
  if budgetCode codes ≠ s.straps.budget.val ∧ !s.share.mismatch.getLsbD src.val then
    report .budgetMismatch { s with share := { s.share with mismatch := s.share.mismatch ||| stationBit src } }
  else s

/-- A PRESENCE at a row in LIVE (R59). -/
def presenceLive (src : Station) (grant want : Byte) (s : State) : State :=
  let row := s.share.rows[src].orCreated
  if row.grant < grant.toNat then
    setRow src { row with want := recordedWant want } s |> noteEvent (.disagree src) |> addPending src
  else setRow src { row with grant := grant.toNat, want := recordedWant want } s

/-- A PRESENCE at a row in LISTEN (R72). -/
def presenceListen (src : Station) (grant want : Byte) (s : State) : State :=
  setRow src { s.share.rows[src].orCreated with
    grant := min s.budget grant.toNat, want := recordedWant want, settled := true } s

/-- A PRESENCE at the share unit (R59, R60, R72). -/
def presenceOp (src : Station) (codes grant want : Byte) (s : State) : State :=
  match s.line.participation with
  | .live => budgetCheck src codes (presenceLive src grant want s)
  | .listen => budgetCheck src codes (presenceListen src grant want s)
  | .lineFault => s
  | .barred => s

/-! ## Claim reviews (R66 to R69) -/

/-- The CLAIM a review leaves in its slot: none when the target equals the grant (R68). -/
def reviewClaim (target grant want : Nat) : Option ClaimFrame :=
  if target = grant then none else some ⟨target, want⟩

/-- A claim review (R67, R68); usable units follow the slot (R64). -/
def review (s : State) : State :=
  let target := reviewTarget s.budget s.share.rows s.own
  refreshUsable (setClaimSlot (reviewClaim target s.ownRow.grant s.ownRow.want) s)

/-- The share unit takes the oldest want the heater reported; in LIVE a review follows (R52, R69). -/
def wantChangeOp (s : State) : State :=
  match s.inbox.wants with
  | [] => s
  | want :: rest =>
    let t := setRow s.own { s.ownRow with want := want } { s with inbox := { s.inbox with wants := rest } }
    if s.line.participation = .live then review t else t

/-- The claim review timer expires in LIVE and restarts (R66). -/
def reviewTimerOp (s : State) : State :=
  if s.line.participation = .live ∧ s.share.reviewTimer = .running then review s else s

/-! ## Silence (R61, R74) -/

/-- A peer's silence timer expires (R61, R74). -/
def silenceOp (peer : Station) (s : State) : State :=
  let row := s.share.rows[peer]
  if row.status = .present ∧ row.silence = .running then
    match s.line.participation with
    | .live => addPending peer (setRow peer { row with silence := .expired } s)
    | .listen => setRow peer { row with silence := .expired, settled := false } s
    | .lineFault => s
    | .barred => s
  else s

/-! ## Changes of participation (R71, R76) -/

/-- The table is cleared to the own row, whose want stays the heater's (R71). -/
def clearTable (s : State) : State :=
  { s with share := { s.share with rows := ownRowOnly s.own s.ownRow.want } }

/-- The share unit's part of LIVE entry (R76). -/
def shareLiveEntry (s : State) : State :=
  let t := review s
  { t with share := { t.share with reviewTimer := .running } }

/-- The share unit's part of leaving LIVE (R76). -/
def shareLeaveLive (s : State) : State :=
  let t := setOwnGrant 0 s |> setPendingEvict 0 |> setClaimSlot none
  setUsable 0 { t with share := { t.share with reviewTimer := .stopped } } |> report .lostPower

/-! ## Meanings -/

/-- WANT_CHANGE (R69). -/
def execWantChange (s : State) : Result := ran wantChangeOp s

/-- CLAIM_REVIEW_TIMER (R66). -/
def execClaimReviewTimer (s : State) : Result := ran reviewTimerOp s

/-- SILENCE_TIMER (R61). -/
def execSilenceTimer (peer : Station) (s : State) : Result := ran (silenceOp peer) s

end Sys2Proof.Machine
end

