-- ==== Sys2Proof/Machine/Line.lean ====
section
/-! DEFINITION. Machine/Line.lean: the line controller: participation, offers and the end of own frames, bad and spoiled
frames, and its timers (spec/10). -/

namespace Sys2Proof.Machine

/-! ## Entering LISTEN and LIVE (R176) -/

/-- The LISTEN window starts and the table is cleared (R71, R176). -/
def startWindow (s : State) : State := clearTable { s with line := { s.line with window := .running } }

/-- LISTEN is entered (R176). -/
def enterListen (s : State) : State :=
  startWindow { s with line := { s.line with
    participation := .listen, spoil := 0, ownSilence := .stopped, presence := .stopped, quiet := .stopped } }

/-- LIVE is entered (R76, R176). -/
def enterLive (s : State) : State :=
  { s with
    line := { s.line with
      participation := .live, spoil := 0, window := .stopped, ownSilence := .running, presence := .expired }
    tx := { s.tx with presence := true } }
    |> noteEvent .joined |> shareLiveEntry

/-- The table is ready (R75). -/
def State.ready (s : State) : Bool := tableReady s.budget s.share.rows

/-! ## Leaving LIVE (R174 to R178) -/

/-- The part of leaving LIVE that every reason shares: LEFT_LIVE, the PRESENCE and REPLY slots emptied, the share unit's
operation (R76, R174, R175); the own-silence timer stops (log entry 25). -/
def leaveLive (reason : LeftReason) (s : State) : State :=
  let t := setReplySlot none (noteEvent (.leftLive reason) s)
  shareLeaveLive { t with
    line := { t.line with
      presence := .stopped
      ownSilence := .stopped
      onLine := t.line.onLine.map fun f => { f with left := true } }
    tx := { t.tx with presence := false } }

/-- LIVE is left for LISTEN; a RESTART whose REPLY was dropped by it is carried out last (R175, R186, log entry 17). -/
def leaveToListen (reason : LeftReason) (s : State) : State :=
  restartAfter s.tx.reply.isSome (enterListen (leaveLive reason s))

/-- LIVE is left for LINE FAULT (R177). -/
def enterLineFault (s : State) : State :=
  let t := leaveLive .lineFault s
  restartAfter s.tx.reply.isSome
    { t with line := { t.line with participation := .lineFault, spoil := 8, quiet := .running } }

/-- BARRED is entered on a duplicate (R178). -/
def enterBarred (s : State) : State :=
  let t := if s.line.participation = .live then leaveLive .barred s else s
  let t := setMarkSlot none { t with line := { t.line with
    participation := .barred, window := .stopped, ownSilence := .stopped, quiet := .stopped } }
  restartAfter s.tx.reply.isSome (report .barred t)

/-! ## Offers (R168) -/

/-- The own frame in the filled slot of lowest kind, with the content an offer fixes (R168). -/
def nextOffer (s : State) : Option OwnFrame :=
  match s.tx.evict, s.tx.claim, s.tx.mark, s.tx.reply, s.tx.presence with
  | some mask, _, _, _, _ => some (.evict mask)
  | none, some c, _, _, _ => some (.claim c)
  | none, none, some m, _, _ => some (.mark m)
  | none, none, none, some r, _ => some (.reply r)
  | none, none, none, none, true => some (.presence (presencePayload s))
  | none, none, none, none, false => none

/-- The offer loses its arbitration to a frame whose arbitration field is lower (R168). -/
def offerLost (rival : Option Byte) (own : Station) (f : OwnFrame) : Bool :=
  match rival with
  | none => false
  | some r => r.toNat < arbitration f.kind own

/-- No own frame is on the line; only then can an offer begin or a peer's frame be under reception (R168). -/
def lineFree (s : State) : Bool := s.line.onLine.isNone && s.line.finishing.isNone

/-- An offer may begin: LIVE, and no own frame on the line (R168). -/
def offerOpen (s : State) : Bool := s.line.participation = .live && lineFree s

/-- An offer that arbitration leaves going is on the line with its content fixed (R168). -/
def offerNext (rival : Option Byte) (s : State) : State :=
  match nextOffer s with
  | none => s
  | some f =>
    if offerOpen s && !offerLost rival s.own f then { s with line := { s.line with onLine := some ⟨f, false, false⟩ } }
    else s

/-- A frame that a RESTART abandoned is over (R166). -/
def forgetAbandoned (s : State) : State := { s with line := { s.line with abandoned := false } }

/-- The line becomes idle: an abandoned frame is over, and an own frame is offered (R166, R168). -/
def offerOp (rival : Option Byte) (s : State) : State := offerNext rival (forgetAbandoned s)

/-! ## The end of an own frame (R171) -/

/-- The transmit slots without the frame of one kind (R171). -/
def TxSlots.without (t : TxSlots) : OwnFrame → TxSlots
  | .evict _ => { t with evict := none }
  | .claim _ => { t with claim := none }
  | .mark _ => { t with mark := none }
  | .reply _ => { t with reply := none }
  | .presence _ => { t with presence := false }

/-- The frame leaves the line, and its slot is emptied when it still holds it; a newer frame stays and is offered next, a
newer MARK too, where R158 may be read otherwise; a PRESENCE slot stays filled until a PRESENCE is taken (R171, R174, log
entry 18). -/
def frameOffLine (f : LineFrame) (taken : Bool) (s : State) : State :=
  let keeps := f.changed || (!taken && f.frame.kind = 8)
  { s with
    line := { s.line with onLine := none }
    tx := if keeps then s.tx else s.tx.without f.frame }

/-- The owner of a taken frame acts (R56, R57, R158, R174, R185, R186). -/
def ownerTaken (f : LineFrame) (s : State) : State :=
  match f.frame with
  | .evict mask => evictLive s.own mask s
  | .claim c => ownClaimTaken c s
  | .mark _ => s
  | .reply _ => restartAfter (!f.changed) s
  | .presence _ => { s with line := { s.line with presence := .running }, tx := { s.tx with presence := false } }

/-- The owner of a dropped frame acts (R62, R65, R158, R174, R185, R186). -/
def ownerDropped (f : LineFrame) (s : State) : State :=
  match f.frame with
  | .evict _ => syncEvict s
  | .claim _ => refreshUsable s
  | .mark _ => s
  | .reply _ => restartAfter (!f.changed) s
  | .presence _ => s

/-- The frame on the line is dropped (R169, R171). -/
def dropFrame (f : LineFrame) (s : State) : State := ownerDropped f (frameOffLine f false s)

/-- The frame on the line is taken: own-silence restarts and the spoil count is 0 (R171). -/
def takeOwnFrame (f : LineFrame) (s : State) : State :=
  let t := frameOffLine f true s
  ownerTaken f { t with line := { t.line with ownSilence := .running, spoil := 0 } }

/-- The end of an offer. A frame that a RESTART found on the line ends without an owner (R166); one whose station left LIVE
is reported dropped whatever the verdict (R175). -/
def endOffer (taken : Bool) (s : State) : State :=
  match s.line.onLine with
  | none => { s with line := { s.line with finishing := none } }
  | some f => if taken && !f.left then takeOwnFrame f s else dropFrame f s

/-- An operation while a frame may be under reception: a RESTART carried out in it abandons that frame (R166). -/
def whileReceiving (receiving : Bool) (op : State → State) (s : State) : State :=
  if receiving && s.handler.restartPending && !(op s).handler.restartPending then
    { op s with line := { (op s).line with abandoned := true } }
  else op s

/-- An echo fault drops the frame on the line; the station receives the rest of the frame (R169). -/
def echoFaultOp (s : State) : State := whileReceiving true (endOffer false) s

/-! ## Received frames found bad or not taken (R170, R171, R173) -/

/-- The end of a received frame: one that a RESTART abandoned has no effect and no verdict (R166). -/
def atFrameEnd (op : State → State) (s : State) : State :=
  if s.line.abandoned then { s with line := { s.line with abandoned := false, verdict := .nothing } } else op s

/-- What the station drives in the verdict cells of a frame found bad (R170). -/
def badDriven (p : Participation) (verdict : BadVerdict) : VerdictDriven :=
  match p, verdict with
  | .live, .read _ _ => .spoil
  | _, _ => .nothing

/-- What the station drives in the verdict cells of a frame checked good (R170). -/
def goodDriven (p : Participation) : VerdictDriven := if p = .live then .taken else .nothing

/-- The station could not check a frame that others may have taken (R173). -/
def unchecked (verdict : BadVerdict) : Bool :=
  match verdict with
  | .unplaced => true
  | .read taken spoil => taken && !spoil

/-- A frame found bad in LIVE (R173, R177). -/
def badLive (verdict : BadVerdict) (s : State) : State :=
  if 7 ≤ s.line.spoil then enterLineFault s
  else if verdict = .unplaced then leaveToListen .unchecked s
  else { s with line := { s.line with spoil := s.line.spoil + 1 } }

/-- A frame found bad, by participation state (R173). -/
def foundBad (verdict : BadVerdict) (s : State) : State :=
  let t := { s with line := { s.line with verdict := badDriven s.line.participation verdict } }
  match s.line.participation with
  | .live => badLive verdict t
  | .listen => if unchecked verdict then startWindow t else t
  | .lineFault => t
  | .barred => t

/-- The end of a received frame found bad (R173). -/
def foundBadOp (verdict : BadVerdict) (s : State) : State := atFrameEnd (foundBad verdict) s

/-- A received frame is checked good: in LIVE the spoil count becomes 0 and TAKEN is driven (R170, R173). -/
def checkedGood (s : State) : State :=
  { s with line := { s.line with
      spoil := if s.line.participation = .live then 0 else s.line.spoil
      verdict := goodDriven s.line.participation } }

/-- The received bad frame that brings the spoil count to 8 (R173, R177). -/
def eighthBadOp (verdict : BadVerdict) (s : State) : State :=
  if s.line.participation = .live ∧ 7 ≤ s.line.spoil then foundBadOp verdict s else s

/-! ## Timers (R174 to R177) -/

/-- The own-silence timer expires, while a peer's frame is under reception or not (R166, R175). -/
def ownSilenceOp (receiving : Bool) (s : State) : State :=
  if s.line.participation = .live ∧ s.line.ownSilence = .running then
    whileReceiving (receiving && lineFree s) (leaveToListen .ownSilence) s
  else s

/-- The presence timer expires (R174). -/
def presenceTimerOp (s : State) : State :=
  if s.line.participation = .live ∧ s.line.presence = .running then
    { s with line := { s.line with presence := .expired }, tx := { s.tx with presence := true } }
  else s

/-- The LISTEN window runs out (R176). -/
def windowOp (s : State) : State :=
  if s.line.participation = .listen ∧ s.line.window = .running then
    if s.ready then enterLive s else { s with line := { s.line with window := .expired } }
  else s

/-- The share unit reports the table ready (R75, R176, log entry 16). -/
def tableReadyOp (s : State) : State :=
  if s.line.participation = .listen ∧ s.line.window = .expired ∧ s.ready then enterLive s else s

/-- The quiet timer expires (R177). -/
def quietTimerOp (s : State) : State :=
  if s.line.participation = .lineFault ∧ s.line.quiet = .running then enterListen s else s

/-! ## What the line shows (R165, R168) -/

/-- The cells that HL_TX carries for the own frame on the line, its verdict cells short (R170); none while RESET_N is low. -/
def hlTxCells (s : State) : List Bool :=
  if s.resetN then
    match s.line.onLine, s.line.finishing with
    | some f, _ => (f.frame.wire s.own).cells
    | none, some f => (f.wire s.own).cells
    | none, none => []
  else []

/-- The commands that the pulses read while an own frame is offered are, from its start cell to the next idle: OFFER, and
OWN_FRAME_TAKEN, OWN_FRAME_DROPPED or ECHO_FAULT, with the frame received after a lost arbitration or an echo fault
(R168, R169, R171). None where no offer begins. -/
def hearOffer (s : State) (pulses : List Pulse) : List Instr :=
  match nextOffer s with
  | none => []
  | some f => if offerOpen s then hearSent (f.wire s.own) (cellsOf pulses) else []

/-! ## Meanings -/

/-- TABLE_READY (R75). -/
def execTableReady (s : State) : Result := ran tableReadyOp s

/-- OFFER (R168). -/
def execOffer (rival : Option Byte) (s : State) : Result := ran (offerOp rival) s

/-- ECHO_FAULT (R169); `WireFrame.echo` of Decode.lean says when one arises. -/
def execEchoFault (s : State) : Result := ran echoFaultOp s

/-- OWN_FRAME_TAKEN (R171). -/
def execOwnFrameTaken (s : State) : Result := ran (endOffer true) s

/-- OWN_FRAME_DROPPED (R171). -/
def execOwnFrameDropped (s : State) : Result := ran (endOffer false) s

/-- FRAME_FOUND_BAD (R173). -/
def execFrameFoundBad (verdict : BadVerdict) (s : State) : Result := ran (foundBadOp verdict) s

/-- FRAME_SPOILED (R171): a received frame checked good whose verdict does not take it. -/
def execFrameSpoiled (s : State) : Result := ran (atFrameEnd checkedGood) s

/-- OWN_SILENCE (R175). -/
def execOwnSilence (s : State) (receiving : Bool := false) : Result := ran (ownSilenceOp receiving) s

/-- PRESENCE_TIMER (R174). -/
def execPresenceTimer (s : State) : Result := ran presenceTimerOp s

/-- LISTEN_WINDOW (R176). -/
def execListenWindow (s : State) : Result := ran windowOp s

/-- QUIET_TIMER (R177). -/
def execQuietTimer (s : State) : Result := ran quietTimerOp s

/-- LINE_FAULT (R177): the frame found bad that brings the spoil count to 8 (log entry 3). -/
def execLineFault (s : State) (verdict : BadVerdict := .read false true) : Result := ran (eighthBadOp verdict) s

end Sys2Proof.Machine
end

