-- ==== Sys2Proof/Machine/Frames.lean ====
section
/-! DEFINITION. Machine/Frames.lean: taken frames of peers for the share unit and the mark board, and frames handed to no
block (spec/03, spec/09, spec/10). -/

namespace Sys2Proof.Machine

/-- A taken frame from a peer: checked good, its source noted, then handled; one with the own number shows a duplicate and
is handed to no block (R53, R171, R172, R173). -/
def handleFrame (src : Station) (handle : State → State) (s : State) : State :=
  let t := checkedGood s
  if src = t.own ∧ t.line.participation ≠ .barred then enterBarred t else handle (heardFrom src t)

/-- The end of a taken frame (R166, R171). -/
def takeFrame (src : Station) (handle : State → State) (s : State) : State := atFrameEnd (handleFrame src handle) s

/-- A frame for the share unit or the mark board, not handed on with a destination of 16 to 30 (R171). -/
def takeShared (src : Station) (dst : Dest) (handle : State → State) (s : State) : State :=
  takeFrame src (fun s => if Dest.handed dst then handle s else s) s

/-! ## The mark board (R154, R155) -/

/-- The three conditions under which a frame's marks are added (R154). -/
def marksAccepted (s : State) (src : Station) (tag : Byte) : Bool :=
  s.engine.tag ≠ 0 && tag = s.engine.tag && s.engine.mask.getLsbD src.val

/-- A peer's marks at the board (R154); the own row is not changed by a frame (R153). -/
def boardAdd (src : Station) (tag : Byte) (marks : MarkSet) (s : State) : State :=
  if src ≠ s.own ∧ marksAccepted s src tag then
    { s with board := { s.board with rows := s.board.rows.set src.val (s.board.rows[src] ||| marks) } }
  else s

/-- A MARK at the board: applied in LIVE and LISTEN (R154). -/
def markOp (src : Station) (tag : Byte) (marks : MarkSet) (s : State) : State :=
  if s.line.participation.hears then boardAdd src tag marks s else s

/-- The marks of a PRESENCE go to the board as an event of their own, when the payload holds them (R155). -/
def postMarks (src : Station) (marks : Option (Byte × MarkSet)) (s : State) : State :=
  match marks with
  | none => s
  | some (tag, set) =>
    if s.line.participation.hears then
      { s with inbox := { s.inbox with marks := s.inbox.marks ++ [⟨src, tag, set⟩] } }
    else s

/-- The board takes the oldest marks of a PRESENCE (R155, log entry 28). -/
def presenceMarksOp (s : State) : State :=
  match s.inbox.marks with
  | [] => s
  | m :: rest => boardAdd m.src m.tag m.marks { s with inbox := { s.inbox with marks := rest } }

/-- The kinds that are handed to no block: REPLY and 9 to 15 (R171). -/
def otherKind (kind : Fin 16) : Bool := kind.val = 7 || 9 ≤ kind.val

/-! ## Meanings -/

/-- CLAIM (R54, R73). -/
def execClaim (src : Station) (dst : Dest) (requested want : Byte) (s : State) : Result :=
  ran (takeShared src dst (claimOp src requested want)) s

/-- EVICT (R57, R58, R74). -/
def execEvict (src : Station) (dst : Dest) (mask : StationSet) (s : State) : Result :=
  ran (takeShared src dst (evictOp src mask)) s

/-- PRESENCE (R59, R60, R72); its marks go on to the board (R155). -/
def execPresence (src : Station) (dst : Dest) (_states codes grant want : Byte) (marks : Option (Byte × MarkSet))
    (s : State) : Result :=
  ran (takeShared src dst fun s => postMarks src marks (presenceOp src codes grant want s)) s

/-- PRESENCE_MARKS (R155). -/
def execPresenceMarks (s : State) : Result := ran presenceMarksOp s

/-- MARK (R154). -/
def execMark (src : Station) (dst : Dest) (tag : Byte) (marks : MarkSet) (s : State) : Result :=
  ran (takeShared src dst (markOp src tag marks)) s

/-- OTHER_KIND_TAKEN (R53, R171): only its source is noted. -/
def execOtherKindTaken (src : Station) (_dst : Dest) (kind : Fin 16) (s : State) : Result :=
  ran (fun s => if otherKind kind then takeFrame src id s else s) s

end Sys2Proof.Machine
end

