-- ==== Sys2Proof/Machine/Requests.lean ====
section
/-! DEFINITION. Machine/Requests.lean: the request handler and the step store: SETUP, STEP LOAD, COMMAND and QUERY, and the
replies (spec/01, spec/11). -/

namespace Sys2Proof.Machine

/-! ## Replies (R185) -/

/-- A REPLY fills its slot (R185). A detail that no table names is sent as 0 (section 11.1, log entry 5). -/
def answer (src : Station) (kind : Nat) (result : ResultCode) (detail : Byte) (data : List Byte) (s : State) : State :=
  setReplySlot (some ⟨src, kind, result, detail, data⟩) s

/-- A request is acted on: LIVE, to the own number, no restart pending (R182). R78 has a ROW query report the row in every
participation state; the model follows R182, as no REPLY can leave the part outside LIVE (R168, R174, log entry 37). -/
def actedOn (dst : Dest) (s : State) : Bool :=
  s.line.participation = .live && dst.val = s.own.val && !s.handler.restartPending

/-- A taken request: handled when it is acted on. -/
def takeRequest (src : Station) (dst : Dest) (handle : State → State) (s : State) : State :=
  takeFrame src (fun s => if actedOn dst s then handle s else s) s

/-! ## Commands (R183) -/

/-- The checks of R183 that precede a command's own: NOT_SET and NOT_PANEL. -/
def panelCheck (src : Station) (s : State) : Option ResultCode :=
  match s.handler.panel with
  | none => some .notSet
  | some p => if p = src then none else some .notPanel

/-- The reply to a COMMAND: the owner's result with the STATUS data after its operation (R183). -/
def answerCommand (src : Station) (r : ResultCode × State) : State := answer src 2 r.1 0 (statusData r.2) r.2

/-- A directed COMMAND: the checks, then the owner's operation, then the reply (R183). -/
def handleCommand (src : Station) (act : State → ResultCode × State) (s : State) : State :=
  match panelCheck src s with
  | some refusal => answerCommand src (refusal, s)
  | none => answerCommand src (act s)

/-- A taken COMMAND that acts only when directed to this station (R23, R182). -/
def takeCommand (src : Station) (dst : Dest) (act : State → ResultCode × State) (s : State) : State :=
  takeRequest src dst (handleCommand src act) s

/-! ## START (R24 to R27) -/

/-- The slot number a START gives a station: bits 2s+1 and 2s (Table 11-4). -/
def startSlot (slots : BitVec 32) (own : Station) : Fin 4 := ⟨slots.toNat / 4 ^ own.val % 4, Nat.mod_lt _ (by decide)⟩

/-- The checks of a START in the order of R25. -/
def startCheck (a : StartArgs) (s : State) : ResultCode :=
  if !a.mask.getLsbD s.own.val then .badField
  else if a.tag = 0 then .badField
  else if s.engine.state = .unready ∨ s.engine.state = .fault then .refusedState
  else match s.slots[startSlot a.slots s.own].state with
    | .empty => .refusedSlot
    | .loading => .refusedSlot
    | .ready => .done
    | .running => .done

/-- A START at the engine (R25, R26); one too short is BAD_FIELD (R179). -/
def startAct (args : Option StartArgs) (s : State) : ResultCode × State :=
  match args with
  | none => (.badField, s)
  | some a =>
    if startCheck a s = .done then (.done, startRun (startSlot a.slots s.own) a.tag a.mask s)
    else (startCheck a s, s)

/-- A broadcast START is acted on: from the panel station, no restart pending, in every participation state (R182). -/
def broadcastActs (src : Station) (dst : Dest) (s : State) : Bool :=
  dst.val = 31 && s.handler.panel = some src && !s.handler.restartPending

/-- A taken START, broadcast or directed (R23, R27, R182). -/
def takeStart (src : Station) (dst : Dest) (args : Option StartArgs) (s : State) : State :=
  takeFrame src (fun s =>
    if broadcastActs src dst s then (startAct args s).2
    else if actedOn dst s then handleCommand src (startAct args) s
    else s) s

/-! ## The engine's other commands (Table 2-3) -/

/-- PAUSE at the engine (R80). -/
def pauseAct (s : State) : ResultCode × State :=
  if s.engine.state.active then (.done, raiseHold .pause s) else (.refusedState, s)

/-- RESUME at the engine (R89, R90). -/
def resumeAct (s : State) : ResultCode × State :=
  if s.engine.state = .hold then
    match curStep s, s.engine.saved with
    | some st, some saved => if resumeMet s st then (.done, resumeStep st saved s) else (.holdPersists, s)
    | _, _ => (.holdPersists, s)
  else (.refusedState, s)

/-- ABORT at the engine (R44). -/
def abortAct (s : State) : ResultCode × State :=
  if s.engine.state.active then (.done, abortRun s) else (.refusedState, s)

/-- SKIP at the engine (R43). -/
def skipAct (s : State) : ResultCode × State :=
  if s.engine.state = .run then
    match curStep s with
    | none => (.refusedState, s)
    | some st => (.done, stepExit .skipped st s)
  else (.refusedState, s)

/-- CONFIRM at the engine (R38). -/
def confirmAct (s : State) : ResultCode × State :=
  if s.engine.state = .run then
    match curStep s with
    | none => (.notWaiting, s)
    | some st => if st.isConfirm then (.done, stepExit .completed st s) else (.notWaiting, s)
  else (.refusedState, s)

/-- CLEAR at the engine (R97). -/
def clearAct (s : State) : ResultCode × State :=
  match s.engine.state, s.engine.fault with
  | .fault, some code => if clearable s code then (.done, clearFault code s) else (.faultPersists, s)
  | .fault, none => (.faultPersists, s)
  | _, _ => (.refusedState, s)

/-- TARE at the scale (R139). -/
def tareAct (s : State) : ResultCode × State :=
  if s.engine.state = .idle ∨ s.engine.state = .ended then
    if s.scale.steady then (.done, { s with scale := s.scale.tare }) else (.notSteady, s)
  else (.refusedState, s)

/-! ## The step store (R2, R3, R10 to R13) -/

/-- A slot number of a request (R2). -/
def slotOf (b : Byte) : Option (Fin 4) := if h : b.toNat < 4 then some ⟨b.toNat, h⟩ else none

/-- A request at a slot, after the checks of R2: the slot number, then RUNNING. -/
def atSlot (b : Byte) (s : State) (act : Fin 4 → Slot → ResultCode × State) : ResultCode × State :=
  match slotOf b with
  | none => (.badField, s)
  | some k => if s.slots[k].state = .running then (.slotBusy, s) else act k s.slots[k]

/-- A slot of the store is replaced. -/
def setSlot (k : Fin 4) (slot : Slot) (s : State) : State := { s with slots := s.slots.set k.val slot }

/-- OPEN SLOT at the step store (R3); too short, it is BAD_FIELD (R179). -/
def openSlotAct (args : Option (Byte × Byte)) (s : State) : ResultCode × State :=
  match args with
  | none => (.badField, s)
  | some (slot, count) =>
    atSlot slot s fun k _ =>
      if within 1 32 count.toNat then
        (.done, setSlot k ⟨.loading, count.toNat, Vector.replicate 32 none⟩ s)
      else (.badField, s)

/-- Every index below the step count is present (R11 item 1). -/
def Slot.complete (slot : Slot) : Bool :=
  (List.range slot.count).all fun i => (slot.recordAt i).isSome

/-- The step with an index below `i` that raises mark `m` exists (R13). -/
def raisedBefore (slot : Slot) (i : Nat) (m : Fin 32) : Bool :=
  (List.range i).any fun j => ((slot.recordAt j).bind readRecord).bind StepRec.raise = some m

/-- The step at an index waits on a mark of the own station that no earlier step raises (R13). -/
def waitsOnSelf (slot : Slot) (own : Station) (i : Nat) : Bool :=
  match ((slot.recordAt i).bind readRecord).map StepRec.kind with
  | some (.mark station m) => station = own && !raisedBefore slot i m
  | _ => false

/-- The recipe fails the own-mark check (R13). -/
def Slot.selfWait (slot : Slot) (own : Station) : Bool :=
  (List.range slot.count).any fun i => waitsOnSelf slot own i

/-- The checks of CLOSE SLOT on a slot (R11). -/
def closeCheck (slot : Slot) (own : Station) (check : Word16) : ResultCode :=
  match slot.state with
  | .empty => .refusedSlot
  | .ready => .refusedSlot
  | .running => .slotBusy
  | .loading =>
    if !slot.complete then .incomplete
    else if presentCheck slot ≠ check.toNat then .checkMismatch
    else if slot.selfWait own then .selfWait
    else .done

/-- CLOSE SLOT at the step store (R11); too short, it is BAD_FIELD (R179). -/
def closeSlotAct (args : Option (Byte × Word16)) (s : State) : ResultCode × State :=
  match args with
  | none => (.badField, s)
  | some (slotByte, check) =>
    atSlot slotByte s fun k slot =>
      if closeCheck slot s.own check = .done then (.done, setSlot k { slot with state := .ready } s)
      else (closeCheck slot s.own check, s)

/-- The checks of STEP LOAD on a slot, with the field number of BAD_FIELD (R10). -/
def loadCheck (slot : Slot) (rating : Nat) (index : Byte) (record : StepBytes) : ResultCode × Nat :=
  match slot.state with
  | .empty => (.refusedSlot, 0)
  | .ready => (.refusedSlot, 0)
  | .running => (.slotBusy, 0)
  | .loading =>
    if ¬ (index.toNat < 32 ∧ index.toNat < slot.count) then (.badField, 0)
    else match firstBadField rating record with
      | some field => (.badField, field)
      | none => (.done, 0)

/-- A slot with a record stored at an index (R10). -/
def Slot.store (slot : Slot) (index : Nat) (record : StepBytes) : Slot :=
  { slot with records := slot.records.setIfInBounds index (some record) }

/-- STEP LOAD at a slot that exists, and its reply with the SLOT data (R10, R183). -/
def loadAt (src : Station) (k : Fin 4) (index : Byte) (record : StepBytes) (s : State) : State :=
  let slot := s.slots[k]
  let r := loadCheck slot s.rating index record
  let t := if r.1 = .done then setSlot k (slot.store index.toNat record) s else s
  answer src 5 r.1 (u8 r.2) (slotData t.slots[k]) t

/-- A directed STEP LOAD (R183). A refusal for a slot outside 0 to 3 has no data (log entry 23). -/
def handleLoad (src : Station) (slot index : Byte) (record : StepBytes) (s : State) : State :=
  match slotOf slot, panelCheck src s with
  | none, none => answer src 5 .badField 0 [] s
  | none, some refusal => answer src 5 refusal 0 [] s
  | some k, none => loadAt src k index record s
  | some k, some refusal => answer src 5 refusal 0 (slotData s.slots[k]) s

/-! ## SETUP (R181) -/

/-- The number of the first SETUP field out of range (Table 11-3). -/
def setupBadField (zero cpk : Word16) (probe : Byte) : Option Nat :=
  if !within 1000 60000 zero.toNat then some 1
  else if !within 1000 20000 cpk.toNat then some 2
  else if 1 < probe.toNat then some 3
  else none

/-- The refusals of a SETUP before its fields (R181). -/
def setupRefusal (src : Station) (s : State) : Option ResultCode :=
  if s.handler.panel ≠ none ∧ s.handler.panel ≠ some src then some .notPanel
  else if s.engine.state.active ∨ (s.engine.state = .fault ∧ s.handler.panel ≠ none) then some .refusedState
  else none

/-- A SETUP is taken (R181 items 1 to 4). -/
def setupTaken (src : Station) (zero cpk : Word16) (probe : Byte) (s : State) : State :=
  { s with
    handler := { s.handler with
      zero := zero.toNat
      cpk := cpk.toNat
      probe := probe.toNat = 1
      panel := some (s.handler.panel.getD src) }
    scale := s.scale.setup zero.toNat
    engine := if s.engine.state = .unready then { s.engine with state := .idle } else s.engine }

/-- A directed SETUP and its reply with the STATUS data (R181). -/
def handleSetup (src : Station) (zero cpk : Word16) (probe : Byte) (s : State) : State :=
  match setupRefusal src s, setupBadField zero cpk probe with
  | some refusal, _ => answer src 4 refusal 0 (statusData s) s
  | none, some field => answer src 4 .badField (u8 field) (statusData s) s
  | none, none =>
    let t := setupTaken src zero cpk probe s
    answer src 4 .done 0 (statusData t) t

/-! ## Queries (R184) -/

/-- A directed QUERY other than STATUS: NOT_SET before SETUP, BAD_FIELD for an index outside its item's range, else the
item's detail and data (R184). -/
def handleQuery (src : Station) (item : State → Option (Byte × List Byte)) (s : State) : State :=
  if s.handler.panel = none then answer src 6 .notSet 0 [] s
  else match item s with
    | none => answer src 6 .badField 0 [] s
    | some (detail, data) => answer src 6 .done detail data s

/-- A taken QUERY for an item other than STATUS. -/
def takeQuery (src : Station) (dst : Dest) (item : State → Option (Byte × List Byte)) (s : State) : State :=
  takeRequest src dst (handleQuery src item) s

/-- A station index of ROW and MARKS (R184). -/
def stationOf (b : Byte) : Option Station := if h : b.toNat < 16 then some ⟨b.toNat, h⟩ else none

/-- STATUS, answered before SETUP as well (R20, R184). -/
def statusReply (src : Station) (s : State) : State :=
  answer src 6 .done (u8 s.line.participation.code) (statusData s) s

/-- SAMPLE (R152). -/
def sampleItem (s : State) : Option (Byte × List Byte) := some (sampleDetail s, sampleData s)

/-- ROW (R78). -/
def rowItem (index : Byte) (s : State) : Option (Byte × List Byte) := (stationOf index).map fun i => (0, rowData s i)

/-- SLOT (R18). -/
def slotItem (index : Byte) (s : State) : Option (Byte × List Byte) := (slotOf index).map fun k => (0, slotData s.slots[k])

/-- The slot of a STEP query, bits 7 to 6 (Table 11-8). -/
def stepQuerySlot (index : Byte) : Fin 4 := ⟨index.toNat / 64, by have := index.isLt; omega⟩

/-- STEP: an index byte with bit 5 set is out of range (R18, R184). -/
def stepItem (index : Byte) (s : State) : Option (Byte × List Byte) :=
  if index.getLsbD 5 then none else some (stepReply s.slots[stepQuerySlot index] (index.toNat % 32))

/-- JOURNAL (R164). -/
def journalItem (index : Byte) (s : State) : Option (Byte × List Byte) := some (journalReply s.journal index.toNat)

/-- MARKS (R159). -/
def marksItem (index : Byte) (s : State) : Option (Byte × List Byte) := (stationOf index).map fun i => (0, marksData s i)

/-- An item code that is not in Table 11-8 (R184); before SETUP it is NOT_SET (log entry 23). -/
def unknownItemReply (src : Station) (s : State) : State :=
  answer src 6 (if s.handler.panel = none then .notSet else .unknown) 0 [] s

/-- A COMMAND code of Table 11-4. -/
def knownCommand (code : Byte) : Bool := within 1 11 code.toNat

/-- An item code of Table 11-8. -/
def knownItem (item : Byte) : Bool := within 1 7 item.toNat

/-! ## Meanings -/

/-- SETUP (R181). -/
def execSetup (src : Station) (dst : Dest) (zero cpk : Word16) (probe : Byte) (s : State) : Result :=
  ran (takeRequest src dst (handleSetup src zero cpk probe)) s

/-- STEP_LOAD (R10). -/
def execStepLoad (src : Station) (dst : Dest) (slot index : Byte) (record : StepBytes) (s : State) : Result :=
  ran (takeRequest src dst (handleLoad src slot index record)) s

/-- START (R25 to R27). -/
def execStart (src : Station) (dst : Dest) (args : Option StartArgs) (s : State) : Result :=
  ran (takeStart src dst args) s

/-- PAUSE (R80). -/
def execPause (src : Station) (dst : Dest) (s : State) : Result := ran (takeCommand src dst pauseAct) s

/-- RESUME (R89, R90). -/
def execResume (src : Station) (dst : Dest) (s : State) : Result := ran (takeCommand src dst resumeAct) s

/-- ABORT (R44). -/
def execAbort (src : Station) (dst : Dest) (s : State) : Result := ran (takeCommand src dst abortAct) s

/-- SKIP (R43). -/
def execSkip (src : Station) (dst : Dest) (s : State) : Result := ran (takeCommand src dst skipAct) s

/-- CONFIRM (R38). -/
def execConfirm (src : Station) (dst : Dest) (s : State) : Result := ran (takeCommand src dst confirmAct) s

/-- CLEAR (R97). -/
def execClear (src : Station) (dst : Dest) (s : State) : Result := ran (takeCommand src dst clearAct) s

/-- TARE (R139). -/
def execTare (src : Station) (dst : Dest) (s : State) : Result := ran (takeCommand src dst tareAct) s

/-- OPEN_SLOT (R3). -/
def execOpenSlot (src : Station) (dst : Dest) (args : Option (Byte × Byte)) (s : State) : Result :=
  ran (takeCommand src dst (openSlotAct args)) s

/-- CLOSE_SLOT (R11). -/
def execCloseSlot (src : Station) (dst : Dest) (args : Option (Byte × Word16)) (s : State) : Result :=
  ran (takeCommand src dst (closeSlotAct args)) s

/-- RESTART (R186): answered DONE with the STATUS data before the restart; restart pending becomes yes. -/
def execRestart (src : Station) (dst : Dest) (s : State) : Result :=
  ran (takeCommand src dst fun s => (.done, { s with handler := { s.handler with restartPending := true } })) s

/-- UNKNOWN_COMMAND (R183); a code of Table 11-4 is another row's (log entry 2). -/
def execUnknownCommand (src : Station) (dst : Dest) (code : Byte) (s : State) : Result :=
  ran (fun s => if knownCommand code then s else takeCommand src dst (fun s => (.unknown, s)) s) s

/-- STATUS (R20). -/
def execStatus (src : Station) (dst : Dest) (s : State) : Result := ran (takeRequest src dst (statusReply src)) s

/-- SAMPLE (R152). -/
def execSample (src : Station) (dst : Dest) (s : State) : Result := ran (takeQuery src dst sampleItem) s

/-- ROW (R78). -/
def execRow (src : Station) (dst : Dest) (index : Byte) (s : State) : Result := ran (takeQuery src dst (rowItem index)) s

/-- SLOT (R18). -/
def execSlot (src : Station) (dst : Dest) (index : Byte) (s : State) : Result :=
  ran (takeQuery src dst (slotItem index)) s

/-- STEP (R18). -/
def execStep (src : Station) (dst : Dest) (index : Byte) (s : State) : Result :=
  ran (takeQuery src dst (stepItem index)) s

/-- JOURNAL (R164). -/
def execJournal (src : Station) (dst : Dest) (index : Byte) (s : State) : Result :=
  ran (takeQuery src dst (journalItem index)) s

/-- MARKS (R159). -/
def execMarks (src : Station) (dst : Dest) (index : Byte) (s : State) : Result :=
  ran (takeQuery src dst (marksItem index)) s

/-- UNKNOWN_ITEM (R184); an item code of Table 11-8 is another row's (log entry 2). -/
def execUnknownItem (src : Station) (dst : Dest) (item _index : Byte) (s : State) : Result :=
  ran (fun s => if knownItem item then s else takeRequest src dst (unknownItemReply src) s) s

end Sys2Proof.Machine
end

