-- ==== Sys2Proof/Machine/Dispatch.lean ====
section
/-! DEFINITION. Machine/Dispatch.lean: one arm per command, each one call of its meaning. -/

namespace Sys2Proof.Machine

/-- The effect of a command on everything but the queue. -/
def exec (i : Instr) (s : State) : Host.Outcome State Fault Refusal :=
  match i with
  | .reset straps pins => Sys2Proof.Machine.execReset straps pins s
  | .gateEnd lidClosed => Sys2Proof.Machine.execGateEnd lidClosed s
  | .secondBoundary lidClosed => Sys2Proof.Machine.execSecondBoundary lidClosed s
  | .debouncedStateChange lidClosed => Sys2Proof.Machine.execDebouncedStateChange lidClosed s
  | .rangeConditionChange lidClosed => Sys2Proof.Machine.execRangeConditionChange lidClosed s
  | .heaterSampleSet => Sys2Proof.Machine.execHeaterSampleSet s
  | .stirrerSampleSet => Sys2Proof.Machine.execStirrerSampleSet s
  | .scaleSampleSet => Sys2Proof.Machine.execScaleSampleSet s
  | .engineSampleSet => Sys2Proof.Machine.execEngineSampleSet s
  | .burstSlotEnd => Sys2Proof.Machine.execBurstSlotEnd s
  | .rawBowlOpenHeater => Sys2Proof.Machine.execRawBowlOpenHeater s
  | .rawBowlOpenStirrer => Sys2Proof.Machine.execRawBowlOpenStirrer s
  | .rawBowlSeated => Sys2Proof.Machine.execRawBowlSeated s
  | .lockSensed => Sys2Proof.Machine.execLockSensed s
  | .lockDropped => Sys2Proof.Machine.execLockDropped s
  | .lockTimerExpiry => Sys2Proof.Machine.execLockTimerExpiry s
  | .spinupTimerExpiry => Sys2Proof.Machine.execSpinupTimerExpiry s
  | .stall => Sys2Proof.Machine.execStall s
  | .stoppingEnd => Sys2Proof.Machine.execStoppingEnd s
  | .lockRelease => Sys2Proof.Machine.execLockRelease s
  | .intervalPhaseEnd => Sys2Proof.Machine.execIntervalPhaseEnd s
  | .economy => Sys2Proof.Machine.execEconomy s
  | .durationEnd => Sys2Proof.Machine.execDurationEnd s
  | .holdAboveReached => Sys2Proof.Machine.execHoldAboveReached s
  | .dipReset => Sys2Proof.Machine.execDipReset s
  | .timeout => Sys2Proof.Machine.execTimeout s
  | .bowlReport => Sys2Proof.Machine.execBowlReport s
  | .probeReport => Sys2Proof.Machine.execProbeReport s
  | .scaleReport => Sys2Proof.Machine.execScaleReport s
  | .overweight => Sys2Proof.Machine.execOverweight s
  | .sensor => Sys2Proof.Machine.execSensor s
  | .overtemp => Sys2Proof.Machine.execOvertemp s
  | .lidReport => Sys2Proof.Machine.execLidReport s
  | .stallReport => Sys2Proof.Machine.execStallReport s
  | .lidSense => Sys2Proof.Machine.execLidSense s
  | .addSatisfied => Sys2Proof.Machine.execAddSatisfied s
  | .lostPower => Sys2Proof.Machine.execLostPower s
  | .budgetMismatch => Sys2Proof.Machine.execBudgetMismatch s
  | .barred => Sys2Proof.Machine.execBarred s
  | .wantChange => Sys2Proof.Machine.execWantChange s
  | .usableUnits => Sys2Proof.Machine.execUsableUnits s
  | .claimReviewTimer => Sys2Proof.Machine.execClaimReviewTimer s
  | .silenceTimer peer => Sys2Proof.Machine.execSilenceTimer peer s
  | .tableReady => Sys2Proof.Machine.execTableReady s
  | .offer rival => Sys2Proof.Machine.execOffer rival s
  | .echoFault => Sys2Proof.Machine.execEchoFault s
  | .ownFrameTaken => Sys2Proof.Machine.execOwnFrameTaken s
  | .ownFrameDropped => Sys2Proof.Machine.execOwnFrameDropped s
  | .frameFoundBad verdict => Sys2Proof.Machine.execFrameFoundBad verdict s
  | .frameSpoiled => Sys2Proof.Machine.execFrameSpoiled s
  | .ownSilence receiving => Sys2Proof.Machine.execOwnSilence s receiving
  | .presenceTimer => Sys2Proof.Machine.execPresenceTimer s
  | .listenWindow => Sys2Proof.Machine.execListenWindow s
  | .quietTimer => Sys2Proof.Machine.execQuietTimer s
  | .lineFault verdict => Sys2Proof.Machine.execLineFault s verdict
  | .claim src dst requested want => Sys2Proof.Machine.execClaim src dst requested want s
  | .evict src dst mask => Sys2Proof.Machine.execEvict src dst mask s
  | .presence src dst states codes grant want marks => Sys2Proof.Machine.execPresence src dst states codes grant want marks s
  | .presenceMarks => Sys2Proof.Machine.execPresenceMarks s
  | .mark src dst tag marks => Sys2Proof.Machine.execMark src dst tag marks s
  | .setup src dst zero cpk probe => Sys2Proof.Machine.execSetup src dst zero cpk probe s
  | .stepLoad src dst slot index record => Sys2Proof.Machine.execStepLoad src dst slot index record s
  | .otherKindTaken src dst kind => Sys2Proof.Machine.execOtherKindTaken src dst kind s
  | .start src dst args => Sys2Proof.Machine.execStart src dst args s
  | .pause src dst => Sys2Proof.Machine.execPause src dst s
  | .resume src dst => Sys2Proof.Machine.execResume src dst s
  | .abort src dst => Sys2Proof.Machine.execAbort src dst s
  | .skip src dst => Sys2Proof.Machine.execSkip src dst s
  | .confirm src dst => Sys2Proof.Machine.execConfirm src dst s
  | .clear src dst => Sys2Proof.Machine.execClear src dst s
  | .tare src dst => Sys2Proof.Machine.execTare src dst s
  | .openSlot src dst args => Sys2Proof.Machine.execOpenSlot src dst args s
  | .closeSlot src dst args => Sys2Proof.Machine.execCloseSlot src dst args s
  | .restart src dst => Sys2Proof.Machine.execRestart src dst s
  | .unknownCommand src dst code => Sys2Proof.Machine.execUnknownCommand src dst code s
  | .status src dst => Sys2Proof.Machine.execStatus src dst s
  | .sample src dst => Sys2Proof.Machine.execSample src dst s
  | .row src dst index => Sys2Proof.Machine.execRow src dst index s
  | .slot src dst index => Sys2Proof.Machine.execSlot src dst index s
  | .step src dst index => Sys2Proof.Machine.execStep src dst index s
  | .journal src dst index => Sys2Proof.Machine.execJournal src dst index s
  | .marks src dst index => Sys2Proof.Machine.execMarks src dst index s
  | .unknownItem src dst item index => Sys2Proof.Machine.execUnknownItem src dst item index s
  | .filteredLevelChange channel level => Sys2Proof.Machine.execFilteredLevelChange channel level s
  | .resetAsserted straps => Sys2Proof.Machine.execResetAsserted straps s

end Sys2Proof.Machine
end

