-- ==== Sys2Proof/Safety.lean ====
section
/-! DEFINITION. Safety.lean: what the manual promises of every state the block reaches, one predicate a promise, and a
safe run. Promises that rest on the straps are made while RESET_N is high: the straps are sampled while it is low. -/

namespace Sys2Proof.Machine

/-- In LIVE the grants of all rows sum to no more than B (R55). -/
def WithinBudget (s : State) : Prop :=
  s.resetN = true → s.line.participation = .live → grantSum s.share.rows ≤ s.budget

/-- The saved context exists exactly in HOLD, and the hold cause set is empty exactly outside HOLD (R79, R87). -/
def HoldKept (s : State) : Prop :=
  (s.engine.saved.isSome = true ↔ s.engine.state = .hold) ∧ (s.engine.causes ≠ .empty ↔ s.engine.state = .hold)

/-- A slot is RUNNING exactly while the engine is in RUN or HOLD and it is the current slot (R15). -/
def SlotLent (s : State) : Prop :=
  ∀ k : Fin 4, s.slots[k].state = .running ↔ s.engine.state.active = true ∧ s.engine.slot = some k

/-- At most 32 entries, at most one open, and none outside RUN and HOLD (R160, R161, R163). -/
def JournalBounded (s : State) : Prop :=
  s.journal.entries.length ≤ 32 ∧
    s.journal.entries.countP JournalEntry.isOpen ≤ if s.engine.state.active then 1 else 0

/-- The row of the own station equals the own mark set (R153). -/
def OwnRowOwnSet (s : State) : Prop := s.resetN = true → s.board.rows[s.own] = s.board.own

/-- The applied units are within the usable units, a cut period applies none, and the heater regulates only in RUN (R106,
R107). -/
def HeaterBounded (s : State) : Prop :=
  s.heater.applied ≤ s.heater.usable ∧
    (s.heater.cut = true → s.heater.applied = 0 ∧ s.heater.onSlots = 0) ∧
    (s.heater.regulating = true → s.engine.state = .run)

/-- A stirrer in motion runs at its setting's level and direction with the lock DRIVEN exactly when the level needs it, and
then the raw LID_LOCKED input shows locked; a lock request stands only for a level that needs it (R118, R120, R121). -/
def LockedWhenFast (s : State) : Prop :=
  (s.stirrer.state.moving = true →
    s.stirrer.setting.level = s.stirrer.drivenLevel ∧ s.stirrer.setting.direction = s.stirrer.drivenDirection ∧
      needsLock s.stirrer.drivenLevel = s.stirrer.lockDriven ∧ (s.stirrer.lockDriven = true → s.pins.lidLocked = true)) ∧
    (s.stirrer.state = .locking → s.stirrer.lockDriven = true ∧ needsLock s.stirrer.setting.level = true)

/-- The own row alone is SELF; the pending evict mask names only PRESENT rows and is empty outside LIVE, and the EVICT slot
holds the mask (R51, R62). -/
def MaskSound (s : State) : Prop :=
  s.resetN = true →
    (∀ i : Station, s.share.rows[i].status = .self ↔ i = s.own) ∧
    (∀ i : Station, s.share.pendingEvict.getLsbD i.val = true → s.share.rows[i].status = .present) ∧
    (s.line.participation ≠ .live → s.share.pendingEvict = 0) ∧
    s.tx.evict = evictFor s.share.pendingEvict

/-- Outside LIVE the own grant is 0 and no own CLAIM waits, an own frame that the station has not left is on the line only
in LIVE, and usable units follow the own grant and the waiting CLAIM (R64, R68, R175). -/
def GrantOnlyLive (s : State) : Prop :=
  s.resetN = true →
    (s.line.participation ≠ .live → s.ownRow.grant = 0 ∧ s.tx.claim = none) ∧
    (∀ f, s.line.onLine = some f → f.left = false → s.line.participation = .live) ∧
    s.share.usable = usableUnits s.ownRow.grant s.tx.claim

/-- Every promise. -/
def Safe (s : State) : Prop :=
  WithinBudget s ∧ HoldKept s ∧ SlotLent s ∧ JournalBounded s ∧ OwnRowOwnSet s ∧ HeaterBounded s ∧
    LockedWhenFast s ∧ MaskSound s ∧ GrantOnlyLive s

/-- A run is safe: each of its states to the `n`-th step keeps every promise, and no step stops. -/
def SafeRun (n : Nat) (s : State) : Prop := ∀ k ≤ n, ∃ t, Sys2Proof.core.run k s = .next t ∧ Safe t

/-! ## Situations that claims are made in -/

/-- A peer's frame is taken: RESET_N high, a source other than the own station, and not a frame that a RESTART abandoned. -/
def PeerFrame (src : Station) (s : State) : Prop := s.resetN = true ∧ src ≠ s.own ∧ s.line.abandoned = false

/-- A request is acted on: a peer's frame in LIVE to the own number, no RESTART pending (R182). -/
def Directed (src : Station) (dst : Dest) (s : State) : Prop :=
  PeerFrame src s ∧ s.line.participation = .live ∧ dst.val = s.own.val ∧ s.handler.restartPending = false

/-- A directed request from the panel station (R183). -/
def FromPanel (src : Station) (dst : Dest) (s : State) : Prop := Directed src dst s ∧ s.handler.panel = some src

/-- The state in which a taken peer frame is handled: checked good, its source noted (R53, R173). -/
def noted (src : Station) (s : State) : State := heardFrom src (checkedGood s)

/-- The state after a COMMAND's owner has acted and its REPLY is queued (R183). -/
def commandReplied (src : Station) (r : ResultCode) (s : State) : State :=
  setReplySlot (some ⟨src, 2, r, 0, statusData s⟩) s

end Sys2Proof.Machine
end

