-- ==== Sys2Proof/Certificates/Slice0/Obligations.lean ====
section
/-! DEFINITION. Certificates/Slice0/Obligations.lean: the statements for the provers, each from rules of the spec. -/

open Sys2Proof Sys2Proof.Machine

/-! ## The machine -/

/-- Log entry 7 gives the empty queue; this is the queue's front: the step runs it with the rest of the queue. -/
def Obligations.StepRunsTheFrontCommand : Prop :=
  ∀ (c : Instr) (rest : List Instr) (s : State),
    step { s with pending := c :: rest } = exec c { s with pending := rest }

/-- Every command completes in every state and none touches the queue: the manual names no stop (log entry 33). -/
def Obligations.EveryCommandAnswersNext : Prop :=
  ∀ (c : Instr) (s : State), ∃ t, exec c s = .next t ∧ t.pending = s.pending

/-- R115: RESET_N low takes the stirrer's three outputs low. That HEAT_GATE and HL_TX are low as well, that nothing but the straps
changes, and that while it is low only its release and its assertion act is the model's reading, log entry 10. -/
def Obligations.LowResetLowersOutputsAndStopsEvents : Prop :=
  ∀ s : State,
    (∀ straps : Straps, ∃ t, exec (.resetAsserted straps) s = .next t ∧
      t = { s with resetN := false, straps := straps } ∧
      heatGate t = false ∧ motorPwm t = 0 ∧ motorDir t = false ∧ lockDrive t = false ∧ hlTxCells t = []) ∧
    (s.resetN = false → ∀ c : Instr, (∀ straps pins, c ≠ .reset straps pins) →
      (∀ straps, c ≠ .resetAsserted straps) → exec c s = .next s)

/-- Reset takes every field of every block to its reset value (R1, R19, R51, R99, R115, R131, R141, R153, R160, R166, Tables 1-1 to
11-11), and the outputs low; the queue and the model's free counter stay. Where the manual gives a field no value after reset the
record says the model's: periodRunning (log entry 13), early (38), verdict (29), abandoned (8), the mailboxes (4). -/
def Obligations.ResetReachesEveryResetValue : Prop :=
  ∀ (straps : Straps) (pins : PinLevels) (s : State), ∃ t, exec (.reset straps pins) s = .next t ∧
    -- an odd number of ones in ST and STP is a good parity
    let ones := (List.range 4).countP (fun i => straps.station.val.testBit i) + straps.parity.toNat
    t.resetN = true ∧ t.straps = straps ∧ t.pins = pins ∧ t.pending = s.pending ∧ t.freeCount = s.freeCount ∧
    t.chan = {
      gateTimer := .running, boundary := 0, wgt := ⟨pins.wgt, 0⟩, base := ⟨pins.base, 0⟩, food := ⟨pins.food, 0⟩,
      tach := ⟨pins.tach, 0⟩, seq := 0,
      latest := {
        seq := 0, boundary := false, wgt := 0, base := 0, food := 0, tach := 0, bowl := pins.bowlSeated,
        lid := pins.lidClosed, lock := pins.lidLocked },
      bowl := ⟨pins.bowlSeated, 0⟩, lid := ⟨pins.lidClosed, 0⟩, lock := ⟨pins.lidLocked, 0⟩,
      wgtRange := ⟨false, 0⟩, baseRange := ⟨false, 0⟩, foodRange := ⟨false, 0⟩ } ∧
    t.heater = {
      regulating := false, target := 0, ramp := 0, claimUnits := 0, holdUnits := 0, approach := none, rampBase := none,
      elapsed := 0, targetNow := 0, economy := .full, economyCount := 0, want := 0, usable := 0, entrySample := none,
      applied := 0, onSlots := 0, slotPos := 0, cut := false, overTemp := false, periodRunning := false } ∧
    t.stirrer = {
      state := .stopped, setting := ⟨0, .forward, .continuous, 0, 0⟩, patternPos := none, drivenLevel := 0,
      drivenDirection := .forward, duty := 0, lockDriven := false, suspended := false, zeroCount := 0,
      releaseCount := 0, stallCount := 0, lockTimer := .stopped, spinTimer := .stopped, lidSense := false } ∧
    t.scale = {
      reference := 0, history := [], steady := false, latestCount := none, latestGross := none, phase := .none,
      suspended := false, target := 0, tolerance := 0, reReference := none, added := none, overTarget := none,
      reported := false, early := 0 } ∧
    t.engine = {
      state := .unready, slot := none, index := 0, phase := .none, approach := none, atTemp := false, duration := 0,
      timeout := 0, accumulator := 0, dip := 0, clock := 0, tag := 0, mask := 0, prompt := 0,
      causes := ⟨false, false, false, false, false, false, false⟩, fault := none, saved := none } ∧
    (∀ k : Fin 4, t.slots[k].state = .empty ∧ t.slots[k].count = 0 ∧ ∀ i : Fin 32, t.slots[k].records[i] = none) ∧
    (∀ i : Station, t.share.rows[i] =
      if i = straps.station then ⟨.self, 0, 0, true, .stopped⟩ else ⟨.absent, 0, 0, true, .stopped⟩) ∧
    t.share = { rows := t.share.rows, pendingEvict := 0, mismatch := 0, reviewTimer := .stopped, usable := 0 } ∧
    t.line = {
      participation := if ones % 2 = 1 then .listen else .barred
      window := if ones % 2 = 1 then .running else .stopped
      onLine := none, finishing := none, spoil := 0, ownSilence := .stopped, presence := .stopped, quiet := .stopped,
      verdict := .nothing, abandoned := false } ∧
    t.tx = { evict := none, claim := none, mark := none, reply := none, presence := false } ∧
    t.handler = { panel := none, zero := 0, cpk := 0, probe := false, restartPending := false } ∧
    (∀ i : Station, t.board.rows[i] = 0) ∧ t.board.own = 0 ∧ t.journal = ⟨[], 0⟩ ∧
    t.inbox = {
      heater := [], stirrer := [], scale := [], engine := [], wants := [], usables := [], marks := []
      reports := if ones % 2 = 1 then [] else [.barred] } ∧
    heatGate t = false ∧ motorPwm t = 0 ∧ motorDir t = false ∧ lockDrive t = false ∧ hlTxCells t = []

/-- R141, R166, R183, R186: a RESTART from the panel is answered DONE with the STATUS data, and restart pending becomes yes. It is
carried out when its REPLY is taken or dropped, at its verdict or because the station leaves LIVE or is barred: every block at its
reset values, straps kept, LISTEN entered or BARRED kept, the events under way dropped (log entry 17). LID_CLOSED and the frequency
pins are read at that moment: any levels (log entry 39). Lid switches that contradict each other latch LID_SENSE and BARRED is
latched again, in the order of Table 4-4 (log entry 19). A frame under reception is abandoned; what was driven in the verdict cells of the frame last received stays (log entry
29). -/
def Obligations.RestartIsAnsweredThenCarriedOut : Prop :=
  let restarted := fun (barred : Bool) (s t : State) =>
    let standing : List FaultCode :=
      (if t.pins.lidClosed = false ∧ s.pins.lidLocked = true then [.lidSense] else []) ++
        if barred = true then [.barred] else []
    t.straps = s.straps ∧ t.pending = s.pending ∧ t.resetN = true ∧
    t.pins.bowlSeated = s.pins.bowlSeated ∧ t.pins.lidLocked = s.pins.lidLocked ∧
    t.chan = Channels.reset t.pins ∧ t.heater = Heater.reset ∧ t.stirrer = Stirrer.reset ∧ t.scale = Scale.reset ∧
    t.engine = (match standing with
      | [] => Engine.reset
      | code :: _ => { Engine.reset with state := .fault, fault := some code }) ∧
    t.journal = ⟨(match standing with
      | [] => []
      | code :: again => .station 0 0 (.fault code) :: again.map fun c => .station 0 0 (.faultAgain c)),
      standing.length⟩ ∧
    (∀ k : Fin 4, t.slots[k] = Slot.reset) ∧ t.share = Share.reset s.own ∧
    t.line.participation = (if barred = true then .barred else .listen) ∧
    t.line.window = (if barred = true then .stopped else .running) ∧ t.line.ownSilence = .stopped ∧
    t.line.presence = .stopped ∧ t.line.quiet = .stopped ∧ t.line.spoil = 0 ∧ t.line.onLine = none ∧
    t.tx = TxSlots.reset ∧ t.handler = Handler.reset ∧ t.board = Board.reset ∧ t.inbox = Inbox.reset
  (∀ (src : Station) (dst : Dest) (s : State), FromPanel src dst s →
    exec (.restart src dst) s = .next (commandReplied src .done
      { noted src s with handler := { s.handler with restartPending := true } })) ∧
  ∀ s : State, s.resetN = true → s.line.participation = .live → s.handler.restartPending = true →
    -- its REPLY is on the line
    (∀ r : Reply, s.line.onLine = some ⟨.reply r, false, false⟩ →
      ∀ c ∈ [(Instr.ownFrameTaken, false), (.ownFrameDropped, false), (.echoFault, true)],
        ∃ t, exec c.1 s = .next t ∧ restarted false s t ∧ t.line.abandoned = c.2 ∧
          t.line.finishing = s.line.finishing ∧ t.line.verdict = s.line.verdict) ∧
    -- its REPLY waits, and the station leaves LIVE or is barred; an own frame on the line is sent to its end
    (s.tx.reply.isSome = true →
      (s.line.ownSilence = .running → ∀ receiving, ∃ t, exec (.ownSilence receiving) s = .next t ∧ restarted false s t ∧
        t.line.verdict = s.line.verdict ∧
        (∀ f, s.line.onLine = some f → t.line.finishing = some f.frame ∧ t.line.abandoned = false) ∧
        (s.line.onLine = none → s.line.finishing = none →
          t.line.finishing = none ∧ t.line.abandoned = receiving)) ∧
      (s.line.abandoned = false →
        (∃ t, exec (.frameFoundBad .unplaced) s = .next t ∧ restarted false s t ∧ t.line.abandoned = false ∧
          t.line.verdict = .nothing) ∧
        (7 ≤ s.line.spoil → ∀ verdict, ∀ c ∈ [Instr.lineFault verdict, .frameFoundBad verdict],
          ∃ t, exec c s = .next t ∧ restarted false s t ∧ t.line.abandoned = false ∧
            t.line.verdict = if verdict = .unplaced then .nothing else .spoil) ∧
        ∀ (dst : Dest) (tag : Byte) (marks : MarkSet), ∃ t, exec (.mark s.own dst tag marks) s = .next t ∧
          restarted true s t ∧ t.line.abandoned = false ∧ t.line.verdict = .taken))

/-! ## Measurement channels -/

/-- R143, R145: the gate end latches and clears the four counters, numbers the set, marks the fifth as a second boundary,
reads the switches, and delivers the set to the four blocks; only the channels, LID_CLOSED and the mailboxes change. -/
def Obligations.GateEndFormsAndDeliversTheSet : Prop :=
  ∀ (lid : Bool) (s : State), s.resetN = true → ∃ t, exec (.gateEnd lid) s = .next t ∧
    t.chan.seq = (s.chan.seq + 1) % 65536 ∧
    t.chan.boundary = (if 4 ≤ s.chan.boundary then 0 else s.chan.boundary + 1) ∧
    t.chan.latest = ⟨t.chan.seq, decide (4 ≤ s.chan.boundary), s.chan.wgt.edges, s.chan.base.edges, s.chan.food.edges,
      s.chan.tach.edges, t.chan.bowl.level, t.chan.lid.level, t.chan.lock.level⟩ ∧
    t.chan.wgt = ⟨s.chan.wgt.level, 0⟩ ∧ t.chan.base = ⟨s.chan.base.level, 0⟩ ∧
    t.chan.food = ⟨s.chan.food.level, 0⟩ ∧ t.chan.tach = ⟨s.chan.tach.level, 0⟩ ∧
    t.inbox.heater = s.inbox.heater ++ [t.chan.latest] ∧ t.inbox.stirrer = s.inbox.stirrer ++ [t.chan.latest] ∧
    t.inbox.scale = s.inbox.scale ++ [t.chan.latest] ∧
    t.inbox.engine = s.inbox.engine ++ [{
      set := t.chan.latest, wgtOut := t.chan.wgtRange.present, baseOut := t.chan.baseRange.present,
      foodOut := t.chan.foodRange.present }] ∧
    t.pins = { s.pins with lidClosed := lid } ∧
    t.inbox = { s.inbox with
      heater := t.inbox.heater, stirrer := t.inbox.stirrer, scale := t.inbox.scale, engine := t.inbox.engine,
      reports := t.inbox.reports } ∧
    t = { s with pins := t.pins, chan := t.chan, inbox := t.inbox }

/-- R147, R148, R150, R151: at a gate end the third differing raw reading moves a debounced switch (count 2), the third set against
a range condition turns it, and the bowl's debounced opening and each condition that becomes present are reported once each,
nothing else is. -/
def Obligations.SwitchesAndRangesChangeOverThreeSets : Prop :=
  ∀ (lid : Bool) (s : State), s.resetN = true → ∃ t, exec (.gateEnd lid) s = .next t ∧
    (∀ p ∈ [(s.chan.bowl, s.pins.bowlSeated, t.chan.bowl), (s.chan.lid, lid, t.chan.lid),
        (s.chan.lock, s.pins.lidLocked, t.chan.lock)],
      (p.1.level = p.2.1 → p.2.2 = ⟨p.1.level, 0⟩) ∧
      (p.1.level ≠ p.2.1 → p.1.count < 2 → p.2.2 = ⟨p.1.level, p.1.count + 1⟩) ∧
      (p.1.level ≠ p.2.1 → 2 ≤ p.1.count → p.2.2 = ⟨p.2.1, 0⟩)) ∧
    (∀ p ∈ [(s.chan.wgtRange, decide (1000 ≤ s.chan.wgt.edges ∧ s.chan.wgt.edges ≤ 65000), t.chan.wgtRange),
        (s.chan.baseRange, decide (300 ≤ s.chan.base.edges ∧ s.chan.base.edges ≤ 1500), t.chan.baseRange),
        (s.chan.foodRange, decide (300 ≤ s.chan.food.edges ∧ s.chan.food.edges ≤ 1500), t.chan.foodRange)],
      (p.1.present ≠ p.2.1 → p.2.2 = ⟨p.1.present, 0⟩) ∧
      (p.1.present = p.2.1 → p.1.count < 2 → p.2.2 = ⟨p.1.present, p.1.count + 1⟩) ∧
      (p.1.present = p.2.1 → 2 ≤ p.1.count → p.2.2 = ⟨!p.1.present, 0⟩)) ∧
    ∀ r : Report, t.inbox.reports.count r = s.inbox.reports.count r +
      match r with
      | .bowl => if s.chan.bowl.level = true ∧ t.chan.bowl.level = false then 1 else 0
      | .scale => if s.chan.wgtRange.present = false ∧ t.chan.wgtRange.present = true then 1 else 0
      | .probe => if s.chan.foodRange.present = false ∧ t.chan.foodRange.present = true then 1 else 0
      | .sensor => if s.chan.baseRange.present = false ∧ t.chan.baseRange.present = true then 1 else 0
      | _ => 0

/-- The rows SECOND_BOUNDARY, DEBOUNCED_STATE_CHANGE and RANGE_CONDITION_CHANGE are the gate end in the case they name
(R144, R147, R150, log entry 3). -/
def Obligations.GateEndRowsNameItsCases : Prop :=
  ∀ (lid : Bool) (s : State), s.resetN = true →
    (s.chan.boundary = 4 → ∃ t, exec (.secondBoundary lid) s = .next t ∧ exec (.gateEnd lid) s = .next t ∧
      t.chan.boundary = 0 ∧ t.chan.latest.boundary = true) ∧
    (s.chan.bowl.count = 2 → s.chan.bowl.level ≠ s.pins.bowlSeated →
      ∃ t, exec (.debouncedStateChange lid) s = .next t ∧ exec (.gateEnd lid) s = .next t ∧
        t.chan.bowl = ⟨s.pins.bowlSeated, 0⟩) ∧
    (s.chan.lid.count = 2 → s.chan.lid.level ≠ lid →
      ∃ t, exec (.debouncedStateChange lid) s = .next t ∧ exec (.gateEnd lid) s = .next t ∧ t.chan.lid = ⟨lid, 0⟩) ∧
    (s.chan.lock.count = 2 → s.chan.lock.level ≠ s.pins.lidLocked →
      ∃ t, exec (.debouncedStateChange lid) s = .next t ∧ exec (.gateEnd lid) s = .next t ∧
        t.chan.lock = ⟨s.pins.lidLocked, 0⟩) ∧
    (s.chan.wgtRange.count = 2 → s.chan.wgtRange.present = wgtInRange s.chan.wgt.edges →
      ∃ t, exec (.rangeConditionChange lid) s = .next t ∧ exec (.gateEnd lid) s = .next t ∧
        t.chan.wgtRange = ⟨!s.chan.wgtRange.present, 0⟩) ∧
    (s.chan.baseRange.count = 2 → s.chan.baseRange.present = tempInRange s.chan.base.edges →
      ∃ t, exec (.rangeConditionChange lid) s = .next t ∧ exec (.gateEnd lid) s = .next t ∧
        t.chan.baseRange = ⟨!s.chan.baseRange.present, 0⟩) ∧
    (s.chan.foodRange.count = 2 → s.chan.foodRange.present = tempInRange s.chan.food.edges →
      ∃ t, exec (.rangeConditionChange lid) s = .next t ∧ exec (.gateEnd lid) s = .next t ∧
        t.chan.foodRange = ⟨!s.chan.foodRange.present, 0⟩)

/-- R142, Table 8-2: a change of a filtered level counts an edge from low to high, up to 65535, on its own input alone. Of the levels a
pin stands at in turn, one unlike the filtered level that stands for the filter width is such a change; a shorter one, and a train of
shorter ones, is none. -/
def Obligations.RisingEdgesAreCounted : Prop :=
  (∀ p ∈ [(Channel.wgt, 1000), (.base, 20000), (.food, 20000), (.tach, 100000)],
    ∀ (now level : Bool) (stands : Nat) (later : List Nat),
      (level ≠ now → p.2 ≤ stands → glitchFilter p.1 now level (stands :: later) =
        .filteredLevelChange p.1 level :: glitchFilter p.1 level (!level) later) ∧
      (level = now ∨ stands < p.2 → glitchFilter p.1 now level (stands :: later) = glitchFilter p.1 now (!level) later) ∧
      ((∀ length ∈ later, length < p.2) → glitchFilter p.1 now level later = [])) ∧
  ∀ (level : Bool) (s : State), s.resetN = true →
    ∀ p ∈ [(Channel.wgt, fun (c : Channels) => c.wgt), (.base, fun c => c.base), (.food, fun c => c.food),
        (.tach, fun c => c.tach)],
      (∀ lengths, pinCommands s p.1 lengths = glitchFilter p.1 (p.2 s.chan).level (!(p.2 s.chan).level) lengths) ∧
      ∃ t, exec (.filteredLevelChange p.1 level) s = .next t ∧
        p.2 t.chan = ⟨level, if level = true ∧ (p.2 s.chan).level = false then min 65535 ((p.2 s.chan).edges + 1)
          else (p.2 s.chan).edges⟩ ∧
        t.chan = { s.chan with wgt := t.chan.wgt, base := t.chan.base, food := t.chan.food, tach := t.chan.tach } ∧
        (∀ q ∈ [(Channel.wgt, fun (c : Channels) => c.wgt), (.base, fun c => c.base), (.food, fun c => c.food),
          (.tach, fun c => c.tach)], q.1 ≠ p.1 → q.2 t.chan = q.2 s.chan) ∧
        t = { s with pins := t.pins, chan := t.chan }

/-! ## Heater -/

/-- R100 to R103, R105, R107, R108: what a step entry's setpoint leaves in the heater, for every step and latest sample set; and an off
setting: OFF, setpoint cleared, the period cut, the want 0 and reported when it was above 0, usable units and the
over-temperature flag kept; an OFF heater is unchanged. R105, R107: a running period that is not cut takes its units and on-slots anew
at the setpoint, its slot position kept; a cut one stays cut. Log entry 13 gives the time before the first period, 35 a step without
claim units. -/
def Obligations.SetpointAndOffSettingSetTheHeater : Prop :=
  (∀ (st : StepRec) (s : State), let t := heaterSetpoint st s; let count := s.chan.latest.base
    t.heater.regulating = true ∧ t.heater.target = st.target ∧ t.heater.ramp = st.ramp ∧
    t.heater.claimUnits = st.claimUnits ∧ t.heater.holdUnits = st.holdUnits ∧
    t.heater.approach = (if st.target = 0 then none
      else if 300 ≤ count ∧ count ≤ 1500 ∧ 4 * (st.target : Int) ≤ (count : Int) - 400 then some .cooling
      else some .heating) ∧
    (t.heater.rampBase = if t.heater.approach = some .heating ∧ st.ramp ≠ 0 then
      some (if 300 ≤ count ∧ count ≤ 1500 then count - 400 else 0) else none) ∧
    (t.heater.rampBase = none → t.heater.targetNow = 4 * st.target) ∧
    (∀ b, t.heater.rampBase = some b → t.heater.targetNow = min b (4 * st.target)) ∧
    t.heater.elapsed = 0 ∧ t.heater.economy = .full ∧ t.heater.economyCount = 0 ∧
    t.heater.entrySample = some s.chan.latest.seq ∧ t.heater.usable = s.heater.usable ∧
    t.heater.want = (if st.target = 0 then 0 else st.claimUnits) ∧
    t.inbox.wants = s.inbox.wants ++ (if t.heater.want = s.heater.want then [] else [t.heater.want]) ∧
    t.heater.cut = s.heater.cut ∧ t.heater.slotPos = s.heater.slotPos ∧ t.heater.overTemp = s.heater.overTemp ∧
    t.heater.periodRunning = s.heater.periodRunning ∧
    (s.heater.cut = true ∨ s.heater.periodRunning = false →
      t.heater.applied = s.heater.applied ∧ t.heater.onSlots = s.heater.onSlots) ∧
    (s.heater.cut = false → s.heater.periodRunning = true →
      t.heater.applied = (if st.claimUnits = 0 then 0
        else min (demand s.rating st.target t.heater.targetNow count) s.heater.usable) ∧
      t.heater.onSlots = onSlotsOf s.rating t.heater.applied) ∧
    t = { s with heater := t.heater, inbox := { s.inbox with wants := t.inbox.wants } }) ∧
  ∀ s : State, let t := heaterOff s
    (s.heater.regulating = false → t = s) ∧
    (s.heater.regulating = true →
      t.heater.regulating = false ∧ t.heater.target = 0 ∧ t.heater.ramp = 0 ∧ t.heater.claimUnits = 0 ∧
      t.heater.holdUnits = 0 ∧ t.heater.approach = none ∧ t.heater.rampBase = none ∧ t.heater.elapsed = 0 ∧
      t.heater.targetNow = 0 ∧ t.heater.economy = .full ∧ t.heater.economyCount = 0 ∧ t.heater.entrySample = none ∧
      t.heater.applied = 0 ∧ t.heater.onSlots = 0 ∧ t.heater.cut = true ∧ heatGate t = false ∧
      t.heater.want = 0 ∧ t.inbox.wants = s.inbox.wants ++ (if 0 < s.heater.want then [0] else []) ∧
      t.heater.usable = s.heater.usable ∧ t.heater.overTemp = s.heater.overTemp ∧
      t = { s with heater := t.heater, inbox := { s.inbox with wants := t.inbox.wants } })

/-- R104, R112: at a set that is not a second boundary the heater makes the over-temperature test and nothing else. The cut, the applied
units and the on-slots are set also before the first second boundary, when no period runs (log entry 36). -/
def Obligations.OvertemperatureTestBetweenBoundaries : Prop :=
  ∀ (s : State) (set : SampleSet) (rest : List SampleSet), s.resetN = true →
    s.inbox.heater = set :: rest → set.boundary = false → ∃ t, exec .heaterSampleSet s = .next t ∧
      (1320 ≤ set.base →
        t.heater = { s.heater with cut := true, applied := 0, onSlots := 0, overTemp := true } ∧ heatGate t = false ∧
        t.inbox.reports = s.inbox.reports ++ (if s.heater.overTemp = true then [] else [.overtemp])) ∧
      (set.base < 1320 → t.heater = { s.heater with overTemp := false } ∧ t.inbox.reports = s.inbox.reports) ∧
      t = { s with heater := t.heater, inbox := { s.inbox with heater := rest, reports := t.inbox.reports } }

/-- R104 item 3, R105, R107, R112: a second boundary starts a burst period, with the over-temperature test first; log entry 11
gives what a cut period applies, log entry 35 a step without claim units (R6). -/
def Obligations.SecondBoundaryStartsABurstPeriod : Prop :=
  ∀ (s : State) (set : SampleSet) (rest : List SampleSet), s.resetN = true →
    s.inbox.heater = set :: rest → set.boundary = true → ∃ t, exec .heaterSampleSet s = .next t ∧
      t.heater.slotPos = 0 ∧ t.heater.periodRunning = true ∧ t.heater.regulating = s.heater.regulating ∧
      (t.heater.overTemp = true ↔ 1320 ≤ set.base) ∧
      t.inbox.reports = s.inbox.reports ++
        (if 1320 ≤ set.base ∧ s.heater.overTemp = false then [.overtemp] else []) ∧
      (t.heater.cut = true ↔ 1320 ≤ set.base ∨ s.pins.bowlSeated = false) ∧
      (t.heater.cut = true ∨ s.heater.regulating = false → t.heater.applied = 0 ∧ t.heater.onSlots = 0) ∧
      (t.heater.cut = false → s.heater.regulating = true →
        t.heater.applied = (if s.heater.claimUnits = 0 then 0
          else min (demand s.rating s.heater.target t.heater.targetNow set.base) s.heater.usable) ∧
        t.heater.onSlots = onSlotsOf s.rating t.heater.applied) ∧
      (s.heater.regulating = true → t.heater.entrySample = none) ∧
      (s.heater.regulating = true → s.heater.entrySample ≠ some set.seq →
        ∀ b, s.heater.rampBase = some b → s.heater.targetNow < 4 * s.heater.target →
          t.heater.elapsed = s.heater.elapsed + 1 ∧
          t.heater.targetNow =
            min (b + 4 * s.heater.ramp * (s.heater.elapsed + 1) / 60) (4 * s.heater.target)) ∧
      (s.heater.regulating = false ∨ s.heater.entrySample = some set.seq ∨ s.heater.rampBase = none ∨
          4 * s.heater.target ≤ s.heater.targetNow →
        t.heater.elapsed = s.heater.elapsed ∧ t.heater.targetNow = s.heater.targetNow) ∧
      t = { s with
        heater := t.heater
        inbox := { s.inbox with heater := rest, wants := t.inbox.wants, reports := t.inbox.reports } }

/-- R105: the demand, and the rounding of the on-slots; 8 °C are 32 quarter degrees. -/
def Obligations.DemandAndOnSlotsFollowTheLaw : Prop :=
  ∀ rating target targetNow count : Nat,
    (target = 0 ∨ count < 300 ∨ 1500 < count ∨ (targetNow : Int) ≤ (count : Int) - 400 →
      demand rating target targetNow count = 0) ∧
    (target ≠ 0 → 300 ≤ count → count ≤ 1500 → ∀ d : Nat, (targetNow : Int) = (count : Int) - 400 + d →
      (32 ≤ d → demand rating target targetNow count = rating) ∧
      (d < 32 → rating * d ≤ 32 * demand rating target targetNow count ∧
        32 * demand rating target targetNow count < rating * d + 32)) ∧
    (0 < rating → ∀ applied : Nat,
      2 * rating * onSlotsOf rating applied ≤ 50 * applied + rating ∧
      50 * applied + rating < 2 * rating * (onSlotsOf rating applied + 1))

/-- R108, R109, R110: the economy state at a counted second boundary. The row ECONOMY is the heater's sample set that brings
the count to 30 (log entry 3); a heater in ECONOMY returns to FULL more than 4 °C below the target. -/
def Obligations.EconomyFollowsTheBaseTemperature : Prop :=
  ∀ (s : State) (set : SampleSet) (rest : List SampleSet), s.resetN = true →
    s.inbox.heater = set :: rest → set.boundary = true → s.heater.regulating = true →
    s.heater.entrySample ≠ some set.seq → s.heater.target ≠ 0 → s.heater.holdUnits < s.heater.claimUnits →
    300 ≤ set.base → set.base ≤ 1500 →
    (s.heater.economy = .full → 4 * (s.heater.target : Int) - 4 ≤ (set.base : Int) - 400 →
      (s.heater.economyCount = 29 → ∃ t, exec .economy s = .next t ∧ exec .heaterSampleSet s = .next t ∧
        t.heater.economy = .economy ∧ t.heater.economyCount = 0 ∧ t.heater.want = s.heater.holdUnits ∧
        t.inbox.wants = s.inbox.wants ++
          (if s.heater.want = s.heater.holdUnits then [] else [s.heater.holdUnits])) ∧
      (s.heater.economyCount < 29 → ∃ t, exec .heaterSampleSet s = .next t ∧
        t.heater.economy = .full ∧ t.heater.economyCount = s.heater.economyCount + 1)) ∧
    (s.heater.economy = .full → (set.base : Int) - 400 < 4 * (s.heater.target : Int) - 4 →
      ∃ t, exec .heaterSampleSet s = .next t ∧ t.heater.economy = .full ∧ t.heater.economyCount = 0) ∧
    (s.heater.economy = .economy → (set.base : Int) - 400 < 4 * (s.heater.target : Int) - 16 →
      ∃ t, exec .heaterSampleSet s = .next t ∧ t.heater.economy = .full ∧ t.heater.economyCount = 0 ∧
        t.heater.want = s.heater.claimUnits) ∧
    (s.heater.economy = .economy → 4 * (s.heater.target : Int) - 16 ≤ (set.base : Int) - 400 →
      ∃ t, exec .heaterSampleSet s = .next t ∧ t.heater.economy = .economy)

/-- R106, R107: the raw bowl opening cuts the period, a fall of the usable units below the applied units cuts it and any other
new value does not, and the end of a slot advances the slot position. Before the first boundary, when no period runs (R99), the cut flag
is set all the same (log entry 36). -/
def Obligations.CutsAndSlotsOfABurstPeriod : Prop :=
  ∀ s : State, s.resetN = true →
    (∃ t, exec .rawBowlOpenHeater s = .next t ∧ heatGate t = false ∧
      t = { s with
        pins := { s.pins with bowlSeated := false }
        heater := { s.heater with cut := true, applied := 0, onSlots := 0 } }) ∧
    (∀ units rest, s.inbox.usables = units :: rest → ∃ t, exec .usableUnits s = .next t ∧
      t.heater = (if units < s.heater.applied then
        { s.heater with usable := units, cut := true, applied := 0, onSlots := 0 }
        else { s.heater with usable := units }) ∧
      t = { s with heater := t.heater, inbox := { s.inbox with usables := rest } }) ∧
    (s.heater.periodRunning = true → s.heater.slotPos < 24 →
      exec .burstSlotEnd s = .next { s with heater := { s.heater with slotPos := s.heater.slotPos + 1 } }) ∧
    (heatGate s = true ↔ s.heater.regulating = true ∧ s.heater.cut = false ∧ s.pins.bowlSeated = true ∧
      s.heater.slotPos < s.heater.onSlots)

/-! ## Stirrer -/

/-- R116, Table 6-2: the target speed, the start duty and the need of the lock of each level, and the band of 95 % to 105 % in
which the duty stays as it was. -/
def Obligations.EachLevelHasItsSpeedDutyAndLock : Prop :=
  (List.range 13).map (fun level => (level, levelSpeed level, startDuty level, needsLock level)) =
    [(0, 0, 0, false), (1, 40, 8, false), (2, 70, 16, false), (3, 100, 24, false), (4, 150, 32, false),
      (5, 220, 40, true), (6, 300, 48, true), (7, 400, 56, true), (8, 520, 64, true), (9, 660, 72, true),
      (10, 820, 80, true), (11, 1000, 88, true), (12, 1200, 96, true)] ∧
  ∀ duty level tach : Nat, 95 * levelSpeed level ≤ 100 * (10 * tach) → 100 * (10 * tach) ≤ 105 * levelSpeed level →
    dutyAfter duty level tach = duty

/-- R124, R125, R126, R128: a sample set handled in SPINUP or RUNNING that neither stalls the stirrer nor ends a phase: the duty
moves by 2 points toward the band, the stall count counts in RUNNING, the lid-sense flag follows the switches, and a second
boundary takes a second from the phase of an INTERVAL pattern. -/
def Obligations.SpeedIsRegulatedAtEachSampleSet : Prop :=
  ∀ (s : State) (set : SampleSet) (rest : List SampleSet), s.resetN = true →
    s.inbox.stirrer = set :: rest →
    (set.boundary = true → ∀ p, s.stirrer.patternPos = some p → 1 < p.left) →
    (s.stirrer.state = .spinup ∨ s.stirrer.state = .running) →
    ¬(s.stirrer.state = .running ∧ 100 * (10 * set.tach) < 30 * levelSpeed s.stirrer.drivenLevel ∧
      9 ≤ s.stirrer.stallCount) →
    ∃ t, exec .stirrerSampleSet s = .next t ∧
      (100 * (10 * set.tach) < 95 * levelSpeed s.stirrer.drivenLevel →
        t.stirrer.duty = min 100 (s.stirrer.duty + 2)) ∧
      (105 * levelSpeed s.stirrer.drivenLevel < 100 * (10 * set.tach) → t.stirrer.duty = s.stirrer.duty - 2) ∧
      (95 * levelSpeed s.stirrer.drivenLevel ≤ 100 * (10 * set.tach) →
        100 * (10 * set.tach) ≤ 105 * levelSpeed s.stirrer.drivenLevel → t.stirrer.duty = s.stirrer.duty) ∧
      (s.stirrer.state = .running → t.stirrer.stallCount =
        if 100 * (10 * set.tach) < 30 * levelSpeed s.stirrer.drivenLevel then s.stirrer.stallCount + 1 else 0) ∧
      (s.stirrer.state = .spinup → t.stirrer.stallCount = s.stirrer.stallCount) ∧
      (t.stirrer.lidSense = true ↔ set.lid = false ∧ set.lock = true) ∧
      t.inbox.reports = s.inbox.reports ++
        (if set.lid = false ∧ set.lock = true ∧ s.stirrer.lidSense = false then [.lidSense] else []) ∧
      t.stirrer.patternPos = (if set.boundary = true then s.stirrer.patternPos.map fun p => ⟨p.on, p.left - 1⟩
        else s.stirrer.patternPos) ∧
      t.stirrer = { s.stirrer with
        duty := t.stirrer.duty, stallCount := t.stirrer.stallCount, lidSense := t.stirrer.lidSense
        patternPos := t.stirrer.patternPos } ∧
      t = { s with stirrer := t.stirrer, inbox := { s.inbox with stirrer := rest, reports := t.inbox.reports } }

/-- R125: at the tenth set below 30 % of the target speed the stirrer is suspended, goes to STOPPING and reports STALL. The
row STALL is that sample set (log entry 3). R128: the lid-sense test of the set comes first. -/
def Obligations.TenSlowSetsStallTheStirrer : Prop :=
  ∀ (s : State) (set : SampleSet) (rest : List SampleSet), s.resetN = true →
    s.inbox.stirrer = set :: rest → s.stirrer.state = .running →
    100 * (10 * set.tach) < 30 * levelSpeed s.stirrer.drivenLevel → s.stirrer.stallCount = 9 →
    ∃ t, exec .stall s = .next t ∧ exec .stirrerSampleSet s = .next t ∧
      t.stirrer.state = .stopping ∧ t.stirrer.suspended = true ∧ t.stirrer.stallCount = 0 ∧ t.stirrer.duty = 0 ∧
      t.stirrer.zeroCount = 0 ∧ t.stirrer.spinTimer = .stopped ∧ t.stirrer.lockDriven = s.stirrer.lockDriven ∧
      t.stirrer.setting = s.stirrer.setting ∧ motorPwm t = 0 ∧
      (t.stirrer.lidSense = true ↔ set.lid = false ∧ set.lock = true) ∧
      t.inbox.reports = s.inbox.reports ++
        (if set.lid = false ∧ set.lock = true ∧ s.stirrer.lidSense = false then [.lidSense] else []) ++ [.stall] ∧
      t = { s with stirrer := t.stirrer, inbox := { s.inbox with stirrer := rest, reports := t.inbox.reports } }

/-- R119, R121: what the stirrer in STOPPED does with its setting, item by item; the rest of the state is unchanged. -/
def Obligations.StoppedStirrerActsOnItsSetting : Prop :=
  ∀ s : State, s.stirrer.state = .stopped → let t := actOnSetting s; let set := s.stirrer.setting
    -- items 1 to 3
    (s.stirrer.suspended = true ∨ set.level = 0 ∨ (set.level < 5 ∧ s.stirrer.lockDriven = true) ∨
      s.pins.bowlSeated = false → t = s) ∧
    (s.stirrer.suspended = false → s.pins.bowlSeated = true →
      -- item 4: a lock request
      (5 ≤ set.level → (s.stirrer.lockDriven = false ∨ s.pins.lidLocked = false) →
        (s.chan.latest.lid = false → t.stirrer = { s.stirrer with suspended := true } ∧
          t.inbox = { s.inbox with reports := s.inbox.reports ++ [.lid] }) ∧
        (s.chan.latest.lid = true → s.pins.lidLocked = false →
          t.stirrer = { s.stirrer with state := .locking, lockDriven := true, lockTimer := .running } ∧
          t.inbox = s.inbox)) ∧
      -- item 5, and a lock request that finds the bolt home: the drive is started
      ((0 < set.level ∧ set.level < 5 ∧ s.stirrer.lockDriven = false) ∨
          (5 ≤ set.level ∧ s.pins.lidLocked = true ∧ (s.stirrer.lockDriven = true ∨ s.chan.latest.lid = true)) →
        t.stirrer.drivenLevel = set.level ∧ t.stirrer.drivenDirection = set.direction ∧ t.inbox = s.inbox ∧
        (t.stirrer.lockDriven = true ↔ 5 ≤ set.level) ∧
        ((∃ n, s.stirrer.patternPos = some ⟨false, n⟩) → t.stirrer.state = .intervalOff ∧ t.stirrer.zeroCount = 0 ∧
          t.stirrer.duty = 0) ∧
        ((∀ n, s.stirrer.patternPos ≠ some ⟨false, n⟩) → t.stirrer.state = .spinup ∧
          t.stirrer.duty = 8 * set.level ∧ t.stirrer.stallCount = 0 ∧ t.stirrer.spinTimer = .running))) ∧
    t = { s with stirrer := t.stirrer, inbox := t.inbox }

/-- R117, R119, R120, R123: what a setting handed over does in each state; it replaces the one before and clears the suspended flag. In
STOPPED the stirrer acts on it as R119 gives. -/
def Obligations.SettingIsTakenByState : Prop :=
  ∀ (set : Setting) (pos : Option PatternPos) (s : State), let t := giveSetting set pos s
    t.stirrer.setting = set ∧ t.stirrer.patternPos = pos ∧
    (s.stirrer.state = .stopped → t = actOnSetting { s with stirrer := { s.stirrer with
      setting := set, patternPos := pos, suspended := false
      releaseCount := if 5 ≤ set.level then 0 else s.stirrer.releaseCount } }) ∧
    (s.stirrer.state ≠ .stopped → t.stirrer.suspended = false ∧ t.stirrer.lockDriven = s.stirrer.lockDriven ∧
      t.inbox = s.inbox) ∧
    (s.stirrer.state = .stopping → t.stirrer.state = .stopping ∧ t.stirrer.zeroCount = s.stirrer.zeroCount) ∧
    (s.stirrer.state = .locking → t.stirrer.state = .stopping ∧ t.stirrer.lockTimer = .stopped) ∧
    (s.stirrer.state.moving = true →
      -- items 1 to 3
      (set.level = 0 ∨ set.direction ≠ s.stirrer.drivenDirection ∨
        (5 ≤ set.level ∧ s.stirrer.lockDriven = false) ∨ (set.level < 5 ∧ s.stirrer.lockDriven = true) →
        t.stirrer.state = .stopping ∧ t.stirrer.duty = 0 ∧ t.stirrer.spinTimer = .stopped ∧
        t.stirrer.zeroCount = 0) ∧
      (set.level ≠ 0 → set.direction = s.stirrer.drivenDirection → (5 ≤ set.level ↔ s.stirrer.lockDriven = true) →
        -- item 4
        (s.stirrer.state = .intervalOff ∨ set.level ≠ s.stirrer.drivenLevel → t.stirrer.drivenLevel = set.level ∧
          ((∃ n, pos = some ⟨false, n⟩) → t.stirrer.state = .intervalOff) ∧
          ((∀ n, pos ≠ some ⟨false, n⟩) → t.stirrer.state = .spinup ∧ t.stirrer.duty = 8 * set.level)) ∧
        -- item 5
        (s.stirrer.state ≠ .intervalOff → set.level = s.stirrer.drivenLevel →
          t.stirrer.state = s.stirrer.state ∧ t.stirrer.duty = s.stirrer.duty ∧
          t.stirrer.stallCount = s.stirrer.stallCount ∧ t.stirrer.spinTimer = s.stirrer.spinTimer))) ∧
    t = { s with stirrer := t.stirrer, inbox := t.inbox }

/-- R122, R123: in STOPPING each set at 0 rpm raises the zero count and any other clears it, and the third in a row ends STOPPING; in
STOPPED at a level below 5 with the lock DRIVEN the release count does so, and the fifth releases the lock. Each end then acts on the
setting (R119), with the set's own lid switch (R145). In INTERVAL_OFF the zero count counts to 3. The rows STOPPING_END and
LOCK_RELEASE are those sets (log entry 3). R128: in these states, and in LOCKING, where a set does nothing else, the lid-sense flag
follows the switches of the set, and LID_SENSE is reported when it rises. -/
def Obligations.StandstillEndsStoppingAndFreesTheLock : Prop :=
  ∀ (s : State) (set : SampleSet) (rest : List SampleSet), s.resetN = true →
    s.inbox.stirrer = set :: rest →
    let contradict := set.lid = false ∧ set.lock = true
    let u := { s with
      stirrer := { s.stirrer with lidSense := decide contradict }
      inbox := { s.inbox with
        stirrer := rest
        reports := s.inbox.reports ++ if contradict ∧ s.stirrer.lidSense = false then [.lidSense] else [] } }
    (s.stirrer.state = .locking → exec .stirrerSampleSet s = .next u) ∧
    let acts := fun v : State => { actOnSetting { v with chan := { s.chan with latest := set } } with chan := s.chan }
    (s.stirrer.state = .stopping →
      (set.tach ≠ 0 → exec .stirrerSampleSet s = .next { u with stirrer := { u.stirrer with zeroCount := 0 } }) ∧
      (set.tach = 0 → s.stirrer.zeroCount < 2 → exec .stirrerSampleSet s = .next
        { u with stirrer := { u.stirrer with zeroCount := s.stirrer.zeroCount + 1 } }) ∧
      (set.tach = 0 → s.stirrer.zeroCount = 2 →
        ∃ t, exec .stoppingEnd s = .next t ∧ exec .stirrerSampleSet s = .next t ∧
          t = acts { u with stirrer := { u.stirrer with zeroCount := 3, state := .stopped, releaseCount := 0 } })) ∧
    (s.stirrer.state = .stopped →
      (s.stirrer.lockDriven = false ∨ 5 ≤ s.stirrer.setting.level → exec .stirrerSampleSet s = .next u) ∧
      (s.stirrer.lockDriven = true → s.stirrer.setting.level < 5 →
        (set.tach ≠ 0 → exec .stirrerSampleSet s = .next { u with stirrer := { u.stirrer with releaseCount := 0 } }) ∧
        (set.tach = 0 → s.stirrer.releaseCount < 4 → exec .stirrerSampleSet s = .next
          { u with stirrer := { u.stirrer with releaseCount := s.stirrer.releaseCount + 1 } }) ∧
        (set.tach = 0 → s.stirrer.releaseCount = 4 →
          ∃ t, exec .lockRelease s = .next t ∧ exec .stirrerSampleSet s = .next t ∧ t.stirrer.lockDriven = false ∧
            t.stirrer.releaseCount = 0 ∧
            t = acts { u with stirrer := { u.stirrer with lockDriven := false, releaseCount := 0 } }))) ∧
    (s.stirrer.state = .intervalOff → set.boundary = false → exec .stirrerSampleSet s = .next { u with
      stirrer := { u.stirrer with
        zeroCount := if set.tach = 0 then min 3 (s.stirrer.zeroCount + 1) else 0 } })

/-- R125, R126: the second boundary that ends a phase of an INTERVAL pattern, in the phase's own state; the lock and the setting
stand. The set does not stall the stirrer. The row INTERVAL_PHASE_END is that sample set (log entry 3). In INTERVAL_OFF a second
boundary with more than 1 second left takes a second from the phase. R128: the lid-sense flag follows the switches of the set. -/
def Obligations.IntervalPhasesTakeTurns : Prop :=
  ∀ (s : State) (on : Bool) (set : SampleSet) (rest : List SampleSet), s.resetN = true →
    s.inbox.stirrer = set :: rest → set.boundary = true →
    let watched := fun t : State => (t.stirrer.lidSense = true ↔ set.lid = false ∧ set.lock = true) ∧
      t.inbox.reports = s.inbox.reports ++
        if set.lid = false ∧ set.lock = true ∧ s.stirrer.lidSense = false then [.lidSense] else []
    (∀ left, 1 < left → s.stirrer.patternPos = some ⟨on, left⟩ → s.stirrer.state = .intervalOff →
      ∃ t, exec .stirrerSampleSet s = .next t ∧ watched t ∧
        t.stirrer = { s.stirrer with
          patternPos := some ⟨on, left - 1⟩, lidSense := t.stirrer.lidSense
          zeroCount := if set.tach = 0 then min 3 (s.stirrer.zeroCount + 1) else 0 } ∧
        t = { s with
          stirrer := t.stirrer, inbox := { s.inbox with stirrer := rest, reports := t.inbox.reports } }) ∧
    (s.stirrer.patternPos = some ⟨on, 1⟩ →
    ¬(s.stirrer.state = .running ∧ 100 * (10 * set.tach) < 30 * levelSpeed s.stirrer.drivenLevel ∧
      9 ≤ s.stirrer.stallCount) →
    (on = true → (s.stirrer.state = .spinup ∨ s.stirrer.state = .running) →
      ∃ t, exec .intervalPhaseEnd s = .next t ∧ exec .stirrerSampleSet s = .next t ∧
        watched t ∧
        t.stirrer.state = .intervalOff ∧ t.stirrer.patternPos = some ⟨false, s.stirrer.setting.offSeconds⟩ ∧
        t.stirrer.duty = 0 ∧ t.stirrer.spinTimer = .stopped ∧ t.stirrer.zeroCount = 0 ∧ motorPwm t = 0 ∧
        t.stirrer.stallCount = (if s.stirrer.state = .spinup then s.stirrer.stallCount
          else if 100 * (10 * set.tach) < 30 * levelSpeed s.stirrer.drivenLevel then s.stirrer.stallCount + 1 else 0) ∧
        t.stirrer.lockDriven = s.stirrer.lockDriven ∧ t.stirrer.setting = s.stirrer.setting ∧
        t = { s with
          stirrer := t.stirrer, inbox := { s.inbox with stirrer := rest, reports := t.inbox.reports } }) ∧
    (on = false → s.stirrer.state = .intervalOff →
      ∃ t, exec .intervalPhaseEnd s = .next t ∧ exec .stirrerSampleSet s = .next t ∧
        watched t ∧
        t.stirrer.state = .spinup ∧ t.stirrer.patternPos = some ⟨true, s.stirrer.setting.onSeconds⟩ ∧
        t.stirrer.duty = 8 * s.stirrer.setting.level ∧ t.stirrer.spinTimer = .running ∧ t.stirrer.stallCount = 0 ∧
        t.stirrer.drivenLevel = s.stirrer.setting.level ∧ t.stirrer.lockDriven = s.stirrer.lockDriven ∧
        t = { s with
          stirrer := t.stirrer, inbox := { s.inbox with stirrer := rest, reports := t.inbox.reports } }))

/-- R121, R124, R127: the cuts at the pins, the bowl's return, the lock sensed in LOCKING, and the expiry of the lock timer and of
the spin-up timer. -/
def Obligations.PinEventsAndTimersMoveTheStirrer : Prop :=
  ∀ s : State, s.resetN = true →
    (∃ t, exec .rawBowlOpenStirrer s = .next t ∧ t.pins = { s.pins with bowlSeated := false } ∧ motorPwm t = 0 ∧
      (s.stirrer.state.moving = true → t.stirrer = { s.stirrer with
        state := .stopping, duty := 0, spinTimer := .stopped, lockTimer := .stopped, zeroCount := 0 }) ∧
      (s.stirrer.state.moving = false → t.stirrer = s.stirrer) ∧
      t = { s with pins := t.pins, stirrer := t.stirrer }) ∧
    (s.pins.bowlSeated = false → ∃ t, exec .rawBowlSeated s = .next t ∧
      (s.stirrer.state = .stopped → t = actOnSetting { s with pins := { s.pins with bowlSeated := true } }) ∧
      (s.stirrer.state ≠ .stopped → t = { s with pins := { s.pins with bowlSeated := true } })) ∧
    (s.pins.lidLocked = true → ∃ t, exec .lockDropped s = .next t ∧ t.pins = { s.pins with lidLocked := false } ∧
      (s.stirrer.lockDriven = true → s.stirrer.state ≠ .locking → 5 ≤ s.stirrer.setting.level →
        t.stirrer.suspended = true ∧ t.stirrer.lockDriven = true ∧ motorPwm t = 0 ∧
        t.stirrer.state = (if s.stirrer.state.moving = true then .stopping else s.stirrer.state) ∧
        t.inbox = { s.inbox with reports := s.inbox.reports ++ [.lid] }) ∧
      (s.stirrer.lockDriven = false ∨ s.stirrer.setting.level < 5 → t.stirrer = s.stirrer ∧ t.inbox = s.inbox) ∧
      t = { s with pins := t.pins, stirrer := t.stirrer, inbox := t.inbox }) ∧
    (s.stirrer.state = .locking → ∃ t, exec .lockSensed s = .next t ∧ t.pins = { s.pins with lidLocked := true } ∧
      t.stirrer.lockTimer = .stopped ∧
      (s.pins.bowlSeated = false → t.stirrer = { s.stirrer with lockTimer := .stopped, state := .stopped }) ∧
      (s.pins.bowlSeated = true → (∀ n, s.stirrer.patternPos ≠ some ⟨false, n⟩) →
        t.stirrer.state = .spinup ∧ t.stirrer.duty = 8 * s.stirrer.setting.level ∧ t.stirrer.spinTimer = .running ∧
        t.stirrer.drivenLevel = s.stirrer.setting.level) ∧
      (s.pins.bowlSeated = true → (∃ n, s.stirrer.patternPos = some ⟨false, n⟩) → t.stirrer.state = .intervalOff) ∧
      t = { s with pins := t.pins, stirrer := t.stirrer }) ∧
    (s.stirrer.state = .locking → s.stirrer.lockTimer = .running →
      exec .lockTimerExpiry s = .next { s with
        stirrer := { s.stirrer with lockDriven := false, suspended := true, state := .stopped, lockTimer := .stopped }
        inbox := { s.inbox with reports := s.inbox.reports ++ [.lid] } }) ∧
    (s.stirrer.state = .spinup → s.stirrer.spinTimer = .running →
      exec .spinupTimerExpiry s = .next { s with
        stirrer := { s.stirrer with state := .running, stallCount := 0, spinTimer := .stopped } })

/-- R129: the stirred level by state. For STOPPING entered from LOCKING (R120) R129 names no level; that it is the level at which the
drive was last started there too is the model's choice (log entry 41). -/
def Obligations.StirredLevelByState : Prop :=
  ∀ t : Stirrer, t.stirredLevel = match t.state with
    | .spinup | .running | .stopping => t.drivenLevel
    | .intervalOff => if 3 ≤ t.zeroCount then 0 else t.drivenLevel
    | .stopped | .locking => 0

/-! ## Scale -/

/-- R132, R133: a sample set with no weigh phase: the weights, the history of five, steadiness by the stirred level; a set
without a weight empties the history and keeps the latest values. The count `early` is the model's (log entry 38). -/
def Obligations.ScaleWeighsEachSet : Prop :=
  ∀ (s : State) (set : SampleSet) (rest : List SampleSet), s.resetN = true →
    s.inbox.scale = set :: rest → s.scale.phase = .none → ∃ t, exec .scaleSampleSet s = .next t ∧
      (s.handler.cpk = 0 ∨ set.wgt < 1000 ∨ 65000 < set.wgt →
        t.scale = { s.scale with history := [], steady := false, early := s.scale.early - 1 }) ∧
      (s.handler.cpk ≠ 0 → 1000 ≤ set.wgt → set.wgt ≤ 65000 →
        t.scale.latestCount = some set.wgt ∧
        t.scale.latestGross = some (((set.wgt : Int) - s.handler.zero) * 1000 |>.tdiv s.handler.cpk) ∧
        (s.scale.history.length < 5 → ∃ w, t.scale.latestGross = some w ∧ t.scale.history = s.scale.history ++ [w]) ∧
        (s.scale.history.length = 5 →
          ∃ w, t.scale.latestGross = some w ∧ t.scale.history = s.scale.history.tail ++ [w]) ∧
        (t.scale.steady = true ↔ t.scale.history.length = 5 ∧ s.stirrer.stirredLevel ≤ 2 ∧
          ∀ a ∈ t.scale.history, ∀ b ∈ t.scale.history,
            a - b ≤ if s.stirrer.stirredLevel = 0 then 2 else 6) ∧
        t.scale = { s.scale with
          latestCount := t.scale.latestCount, latestGross := t.scale.latestGross, history := t.scale.history,
          steady := t.scale.steady, early := s.scale.early - 1 }) ∧
      t = { s with scale := t.scale, inbox := { s.inbox with scale := rest } }

/-- R135 to R138, R161: the work of a WEIGH step's phase at a steady set with a weight, phase mode ACTIVE, what the open journal entry
takes; while SUSPENDED (R137) the scale takes no reference and no weight. R138: each set with a weight above 15000 g in SETTLE and ADD,
ACTIVE or SUSPENDED, is reported. R29, R135, R140: a set that does not come after the entry of the step in the engine gives the step no
reference and no weight (log entry 38). -/
def Obligations.WeighPhasesAtASteadySet : Prop :=
  ∀ (s : State) (set : SampleSet) (rest : List SampleSet), s.resetN = true → s.inbox.scale = set :: rest →
    -- R138
    (∃ t, exec .scaleSampleSet s = .next t ∧
      t.inbox.reports.count .overweight = s.inbox.reports.count .overweight +
        if s.handler.cpk ≠ 0 ∧ 1000 ≤ set.wgt ∧ set.wgt ≤ 65000 ∧ s.scale.phase ≠ .none ∧
          15000 < (((set.wgt : Int) - s.handler.zero) * 1000).tdiv s.handler.cpk then 1 else 0) ∧
    (s.scale.suspended = true ∨ 0 < s.scale.early → ∃ t, exec .scaleSampleSet s = .next t ∧
      t.scale = { s.scale with
        latestCount := t.scale.latestCount, latestGross := t.scale.latestGross, history := t.scale.history,
        steady := t.scale.steady, early := s.scale.early - 1 } ∧
      (∀ r : Report, r ≠ .overweight → t.inbox.reports.count r = s.inbox.reports.count r) ∧
      t = { s with scale := t.scale, inbox := { s.inbox with scale := rest, reports := t.inbox.reports } }) ∧
    (s.scale.early = 0 → s.scale.suspended = false → s.handler.cpk ≠ 0 → 1000 ≤ set.wgt → set.wgt ≤ 65000 →
      ∃ t, exec .scaleSampleSet s = .next t ∧
      (t.scale.steady = true →
        (s.scale.phase = .settle → s.scale.reReference = none →
          t.scale.phase = .add ∧ t.scale.reference = set.wgt ∧ t.scale.added = some 0 ∧
          t.scale.overTarget = some false) ∧
        (∀ w, s.scale.phase = .settle → s.scale.reReference = some w →
          t.scale.phase = .add ∧ t.scale.reReference = none ∧ t.scale.added = some w ∧
          t.scale.overTarget = s.scale.overTarget ∧
          t.scale.reference = referenceFor set.wgt w s.handler.cpk) ∧
        (s.scale.phase = .add →
          t.scale.phase = .add ∧ t.scale.reference = s.scale.reference ∧
          ∃ net : Int, net = (((set.wgt : Int) - s.scale.reference) * 1000).tdiv s.handler.cpk ∧
            t.scale.added = some net ∧
            t.scale.overTarget =
              (if (s.scale.target : Int) + s.scale.tolerance < net then some true else s.scale.overTarget)) ∧
        (s.scale.phase = .none → t.scale.added = s.scale.added ∧ t.journal = s.journal) ∧
        (s.scale.phase ≠ .none → t.journal = ⟨s.journal.entries.map (JournalEntry.mapOpen fun e =>
          { e with added := t.scale.added, overTarget := t.scale.overTarget }), s.journal.written⟩) ∧
        -- item 3 of R136, for an added weight and for a re-reference
        (∀ w, t.scale.added = some w →
          (s.scale.phase = .add ∨ (s.scale.phase = .settle ∧ s.scale.reReference ≠ none)) →
          s.scale.reported = false →
            (t.scale.reported = true ↔ (s.scale.target : Int) - s.scale.tolerance ≤ w) ∧
            t.inbox.reports.count .addSatisfied = s.inbox.reports.count .addSatisfied +
              (if t.scale.reported = true then 1 else 0))) ∧
      (t.scale.steady = false →
        t.scale.phase = s.scale.phase ∧ t.scale.reference = s.scale.reference ∧ t.scale.added = s.scale.added ∧
        t.scale.overTarget = s.scale.overTarget ∧ t.journal = s.journal) ∧
      t = { s with
        scale := t.scale, journal := t.journal, inbox := { s.inbox with scale := rest, reports := t.inbox.reports } })

/-! ## Step engine -/

/-- R31 items 1 to 4, R32, R39, R43, R46: a sample set in RUN that ends neither the step nor its timeout: the run clock, the
timeout and duration counters, the at-temperature flag and the phase; nothing but the engine and the journal changes. In HOLD
a sample set counts the run clock at its boundary and nothing of the step; in UNREADY, IDLE, ENDED and FAULT nothing. The set is
delivered with the range conditions of its own gate end, and the engine reads those (R143, R145, log entry 14). -/
def Obligations.EngineCountsAtEachSampleSet : Prop :=
  ∀ (s : State) (d : Delivery) (rest : List Delivery), s.resetN = true → s.inbox.engine = d :: rest →
    let set := d.set
    let u := { s with inbox := { s.inbox with engine := rest } }
    let v := { u with chan := s.chan.asDelivered d }
    let clock := if set.boundary = true then min 16777215 (s.engine.clock + 1) else s.engine.clock
    let peaked : Journal := ⟨s.journal.entries.map
      (JournalEntry.mapOpen fun e => { e with peak := peakAfter e.peak set.base }), s.journal.written⟩
    (∀ st : StepRec, s.engine.state = .run → curStep s = some st → endMet st (engineProgress st set v) = false →
      (set.boundary = true → st.timeout = 0 ∨ min 65535 (s.engine.timeout + 1) ≠ st.timeout) →
      ∃ t, exec .engineSampleSet s = .next t ∧
        t.engine.clock = clock ∧
        t.engine.timeout = (if set.boundary = true then min 65535 (s.engine.timeout + 1) else s.engine.timeout) ∧
        (t.engine.atTemp = true ↔
          s.engine.atTemp = true ∨ targetReached s.engine.approach st.target set.base = true) ∧
        t.engine.phase = (if s.engine.phase = .approaching ∧ s.engine.atTemp = false ∧
          targetReached s.engine.approach st.target set.base = true then .counting else s.engine.phase) ∧
        t.engine.duration = (if set.boundary = true ∧ s.engine.phase = .counting then min 65535 (s.engine.duration + 1)
          else s.engine.duration) ∧
        (∀ threshold seconds, st.kind = .holdAbove threshold seconds → set.boundary = true →
          s.engine.phase = .accumulating →
          let e := s.engine.accumulate threshold (holdAboveCount v set)
          t.engine.accumulator = e.accumulator ∧ t.engine.dip = e.dip) ∧
        (set.boundary = false ∨ s.engine.phase ≠ .accumulating →
          t.engine.accumulator = s.engine.accumulator ∧ t.engine.dip = s.engine.dip) ∧
        t.engine = { s.engine with
          clock := t.engine.clock, timeout := t.engine.timeout, atTemp := t.engine.atTemp, phase := t.engine.phase,
          duration := t.engine.duration, accumulator := t.engine.accumulator, dip := t.engine.dip } ∧
        t = { u with engine := t.engine, journal := peaked }) ∧
    (s.engine.state = .hold → exec .engineSampleSet s = .next
      { u with engine := { s.engine with clock := clock }, journal := peaked }) ∧
    (s.engine.state.active = false → exec .engineSampleSet s = .next u)

/-- R30: the target is within 1 °C from the approach side, by an in-range count; without an approach it is never reached. R37: the
accumulator and the dip count of a HOLD_ABOVE step at a second boundary, by the temperature of the channel it uses; an
out-of-range sample or a present range condition leaves both. -/
def Obligations.TargetAndThresholdTests : Prop :=
  (∀ target count : Nat,
    (targetReached none target count = false) ∧
    (targetReached (some .heating) target count = true ↔
      300 ≤ count ∧ count ≤ 1500 ∧ 4 * ((target : Int) - 1) ≤ (count : Int) - 400) ∧
    (targetReached (some .cooling) target count = true ↔
      300 ≤ count ∧ count ≤ 1500 ∧ (count : Int) - 400 ≤ 4 * ((target : Int) + 1))) ∧
  ∀ (e : Engine) (threshold : Nat) (s : State) (set : SampleSet),
    (let count := if s.handler.probe = true then set.food else set.base
     let out := if s.handler.probe = true then s.chan.foodRange.present else s.chan.baseRange.present
     let r := e.accumulate threshold (holdAboveCount s set)
     (out = true ∨ count < 300 ∨ 1500 < count → r = e) ∧
     (out = false → 300 ≤ count → count ≤ 1500 →
       (4 * (threshold : Int) ≤ (count : Int) - 400 → r = { e with accumulator := e.accumulator + 1, dip := 0 }) ∧
       ((count : Int) - 400 < 4 * (threshold : Int) →
         (e.dip < 10 → r = { e with dip := e.dip + 1 }) ∧ (10 ≤ e.dip → r = { e with dip := 11, accumulator := 0 }))))

/-- R29, R30, R85, Table 2-4: a step entered in RUN, when none of its standing conditions holds: the journal entry opened, the
setpoints handed over, the counters 0, the phase and the direction decided, the prompt shown. Log entry 38 gives `early`. -/
def Obligations.StepEntryStartsTheStepAfresh : Prop :=
  ∀ (s : State) (st : StepRec), s.engine.state = .run → curStep s = some st → standingCauses s st = [] →
    let t := stepEntry s
    t.engine = { s.engine with
      phase := match st.kind with
        | .time false _ => .counting
        | .time true _ => .approaching
        | .temp _ => .approaching
        | .weigh _ _ => .weighing
        | .mark _ _ => .waiting
        | .confirm => .waiting
        | .holdAbove _ _ => .accumulating
      approach := approachOf st.target s.chan.latest.base
      atTemp := false, duration := 0, timeout := 0, accumulator := 0, dip := 0, prompt := st.prompt } ∧
    t.heater = (heaterSetpoint st s).heater ∧
    t.stirrer.setting = st.setting ∧
    (st.setting.pattern = .interval → t.stirrer.patternPos = some ⟨true, st.setting.onSeconds⟩) ∧
    (st.setting.pattern = .continuous → t.stirrer.patternPos = none) ∧
    (∀ a b, st.kind = .weigh a b →
      t.scale.phase = .settle ∧ t.scale.suspended = false ∧ t.scale.target = a ∧ t.scale.tolerance = b ∧
      t.scale.added = none ∧ t.scale.overTarget = none ∧ t.scale.reReference = none ∧ t.scale.reported = false ∧
      t.scale.early = s.inbox.scale.length - s.inbox.engine.length) ∧
    ((∀ a b, st.kind ≠ .weigh a b) → t.scale.phase = .none ∧ t.scale.target = 0 ∧ t.scale.added = none) ∧
    t.scale.reference = s.scale.reference ∧ t.scale.history = s.scale.history ∧ t.scale.steady = s.scale.steady ∧
    (∃ e : StepEntry, t.journal.entries.getLast? = some (.step e) ∧ e.tag = s.engine.tag ∧ e.slot = s.engine.slot ∧
      e.index = s.engine.index ∧ e.start = s.engine.clock ∧ e.holds = 0 ∧ e.added = none ∧ e.ending = none) ∧
    t = { s with
      heater := t.heater, stirrer := t.stirrer, scale := t.scale, engine := t.engine, journal := t.journal,
      inbox := { s.inbox with wants := t.inbox.wants, reports := t.inbox.reports } }

/-- R85, R86, R88, R161: a standing condition of the step just entered holds it at once: an open bowl, FOOD out of range in a HOLD_ABOVE
step with the probe, in a WEIGH step WGT out of range or a gross weight above 15000 g. The journal holds the entry just opened, its hold
count 1, and a HOLD entry for each cause, in this order. -/
def Obligations.StandingConditionHoldsTheNewStep : Prop :=
  ∀ (s : State) (st : StepRec), s.engine.state = .run → curStep s = some st →
    let set := s.chan.latest
    let probe := st.isHoldAbove = true ∧ s.handler.probe = true ∧ s.chan.foodRange.present = true
    let gross : Int := (((set.wgt : Int) - s.handler.zero) * 1000).tdiv s.handler.cpk
    let scale := st.isWeigh = true ∧ (s.chan.wgtRange.present = true ∨
      (s.handler.cpk ≠ 0 ∧ 1000 ≤ set.wgt ∧ set.wgt ≤ 65000 ∧ 15000 < gross))
    ∀ (cause : HoldCause) (more : List HoldCause),
    (if set.bowl = false then [HoldCause.bowl] else []) ++ (if probe then [.probe] else []) ++
      (if scale then [.scale] else []) = cause :: more →
    let t := stepEntry s
    let hold := fun (j : Journal) (c : HoldCause) => j.add (.station s.engine.tag s.engine.clock (.hold c))
    let counted := fun j : Journal => { j with
      entries := j.entries.map (JournalEntry.mapOpen fun e => { e with holds := min 255 (e.holds + 1) }) }
    t.engine.state = .hold ∧ t.heater.regulating = false ∧ t.stirrer.setting = { st.setting with level := 0 } ∧
    t.engine.causes = ⟨false, false, !set.bowl, false, false, decide probe, decide scale⟩ ∧
    t.engine.saved.map SavedContext.lifted = some (!set.bowl) ∧
    t.engine.slot = s.engine.slot ∧ t.engine.index = s.engine.index ∧
    t.journal = more.foldl hold (counted (hold (s.journal.add (.step {
      tag := s.engine.tag, slot := s.engine.slot, index := s.engine.index, start := s.engine.clock, holds := 0,
      peak := if 300 ≤ set.base ∧ set.base ≤ 1500 then some ((set.base : Int) - 400) else none,
      added := none, overTarget := none, ending := none })) cause)) ∧
    (st.isWeigh = true → t.scale.phase = .settle ∧ t.scale.suspended = true) ∧
    t = { s with
      heater := t.heater, stirrer := t.stirrer, scale := t.scale, engine := t.engine, journal := t.journal
      inbox := { s.inbox with wants := t.inbox.wants, reports := t.inbox.reports } }

/-- R41, R42: the exit of the last step: its mark raised, its entry closed, ENDED, the slot READY, heater OFF, a stop for the
stirrer, no weigh phase; the run clock, the tag and the mask stand. The exit of another step enters the next one after the mark
is raised, the entry closed and the weigh phase ended. -/
def Obligations.StepExitMovesOn : Prop :=
  ∀ (s : State) (st : StepRec) (cause : EndCause) (k : Fin 4), s.engine.slot = some k →
    (s.slots[k].count ≤ s.engine.index + 1 → let t := stepExit cause st s
      t.engine = { s.engine with
        state := .ended, index := s.slots[k].count, phase := .none, approach := none, atTemp := false, duration := 0,
        timeout := 0, accumulator := 0, dip := 0, prompt := 0 } ∧
      t.slots[k].state = .ready ∧ t.slots[k].count = s.slots[k].count ∧ t.slots[k].records = s.slots[k].records ∧
      (∀ j : Fin 4, j ≠ k → t.slots[j] = s.slots[j]) ∧
      t.heater.regulating = false ∧ (s.heater.regulating = true → t.heater.want = 0) ∧
      t.stirrer.setting = { s.stirrer.setting with level := 0 } ∧ t.scale.phase = .none ∧
      t.board.own = (match st.raise with
        | none => s.board.own
        | some m => s.board.own ||| (1#32 <<< m.val)) ∧
      (∀ m, st.raise = some m → t.tx.mark = some ⟨s.engine.tag, t.board.own⟩ ∧ t.board.rows[s.own] = t.board.own) ∧
      t.journal = ⟨s.journal.entries.map
        (JournalEntry.mapOpen fun e => { e with ending := some (s.engine.clock, cause) }), s.journal.written⟩ ∧
      (st.raise = none → t.board = s.board ∧ t.tx = s.tx) ∧
      t = { s with
        engine := t.engine, slots := t.slots, heater := t.heater, stirrer := t.stirrer, scale := t.scale
        board := t.board, journal := t.journal, tx := { s.tx with mark := t.tx.mark }
        line := { s.line with onLine := t.line.onLine }, inbox := { s.inbox with wants := t.inbox.wants } }) ∧
    (s.engine.index + 1 < s.slots[k].count →
      stepExit cause st s =
      (let u := scaleEnd (closeEntry cause (match st.raise with
        | none => s
        | some m => raiseMark m s))
       stepEntry { u with engine := { u.engine with index := s.engine.index + 1 } }))

/-- R32 to R37, R40: what completes a step: a duration run out, an accumulator full, a mark on the board, the scale's report
while the ADD phase stands; each makes the step exit with COMPLETED. The rows DURATION_END and HOLD_ABOVE_REACHED are the engine's
sample sets that do so (log entry 3). The step's open entry takes the set's peak before the end test (log entry 22), and HOLD_ABOVE reads
the set's own range conditions (log entry 14). -/
def Obligations.EndConditionsCompleteTheStep : Prop :=
  ∀ (s : State) (st : StepRec), s.resetN = true → s.engine.state = .run → curStep s = some st →
    (∀ (d : Delivery) (rest : List Delivery), s.inbox.engine = d :: rest →
      let set := d.set
      let v := { s with chan := s.chan.asDelivered d, inbox := { s.inbox with engine := rest } }
      let u := engineProgress st set v
      let completed : Host.Outcome State Fault Refusal := .next { stepExit .completed st u with chan := s.chan }
      -- TIME and TEMP
      (set.boundary = true → s.engine.phase = .counting → s.engine.duration < 65535 →
        (st.kind = .temp (s.engine.duration + 1) ∨ ∃ b, st.kind = .time b (s.engine.duration + 1)) →
        exec .durationEnd s = completed ∧ exec .engineSampleSet s = completed) ∧
      -- TEMP with no time at the target, at the set that reaches it
      (st.kind = .temp 0 → s.engine.phase = .approaching → s.engine.atTemp = false → s.engine.duration = 0 →
        targetReached s.engine.approach st.target set.base = true →
        exec .durationEnd s = completed ∧ exec .engineSampleSet s = completed) ∧
      -- HOLD_ABOVE
      (∀ threshold seconds, st.kind = .holdAbove threshold seconds → set.boundary = true →
        s.engine.phase = .accumulating → s.engine.accumulator + 1 = seconds →
        ∀ count, holdAboveCount v set = some count → 4 * (threshold : Int) ≤ (count : Int) - 400 →
        exec .holdAboveReached s = completed ∧ exec .engineSampleSet s = completed) ∧
      -- MARK
      (∀ station m, st.kind = .mark station m → s.board.rows[station].getLsbD m.val = true →
        exec .engineSampleSet s = completed)) ∧
    -- WEIGH
    (.addSatisfied ∈ s.inbox.reports → st.isWeigh = true →
      let u := { s with inbox := { s.inbox with reports := s.inbox.reports.erase .addSatisfied } }
      (s.scale.phase = .add → s.scale.suspended = false → s.scale.reported = true →
        exec .addSatisfied s = .next (stepExit .completed st u)) ∧
      (s.scale.phase ≠ .add ∨ s.scale.suspended = true ∨ s.scale.reported = false →
        exec .addSatisfied s = .next u))

/-- R37: the eleventh consecutive second below the threshold empties the accumulator; no timeout falls due at it. R5, R39, R95: a
timeout that falls due latches STEP_TIMEOUT under FAULT, the step's entry closed FAULTED, and ends the step TIMED_OUT under CONTINUE. The
rows DIP_RESET and TIMEOUT are the engine's sample sets that do so (log entry 3). The entry takes the set's peak before these tests (log
entry 22), and the dip reads the set's own range conditions (log entry 14). -/
def Obligations.DipResetAndTimeoutAct : Prop :=
  ∀ (s : State) (d : Delivery) (rest : List Delivery), s.resetN = true → s.inbox.engine = d :: rest →
    ∀ st : StepRec, curStep s = some st → s.engine.state = .run → d.set.boundary = true →
    let v := { s with chan := s.chan.asDelivered d, inbox := { s.inbox with engine := rest } }
    let u := engineProgress st d.set v
    (∀ threshold seconds, st.kind = .holdAbove threshold seconds → 0 < seconds →
      (st.timeout = 0 ∨ min 65535 (s.engine.timeout + 1) ≠ st.timeout) →
      s.engine.phase = .accumulating → s.engine.dip = 10 →
      ∀ count, holdAboveCount v d.set = some count → (count : Int) - 400 < 4 * (threshold : Int) →
      exec .dipReset s = .next { u with chan := s.chan } ∧ exec .engineSampleSet s = .next { u with chan := s.chan } ∧
        u.engine.dip = 11 ∧ u.engine.accumulator = 0 ∧ u.engine.state = .run ∧ u.engine.index = s.engine.index) ∧
    (s.engine.timeout + 1 = st.timeout → st.timeout ≤ 65535 → endMet st u = false →
      (st.continues = true → exec .timeout s = .next { stepExit .timedOut st u with chan := s.chan } ∧
        exec .engineSampleSet s = .next { stepExit .timedOut st u with chan := s.chan }) ∧
      (st.continues = false → ∃ t, exec .timeout s = .next t ∧ exec .engineSampleSet s = .next t ∧
        t.engine = { u.engine with
          state := .fault, fault := some .stepTimeout, saved := none, causes := .empty, phase := .none, approach := none,
          atTemp := false, duration := 0, timeout := 0, accumulator := 0, dip := 0, prompt := 0 } ∧
        t.engine.tag = s.engine.tag ∧ t.engine.clock = min 16777215 (s.engine.clock + 1) ∧
        (∀ k, s.engine.slot = some k → t.slots[k] = { s.slots[k] with state := .ready } ∧
          ∀ j : Fin 4, j ≠ k → t.slots[j] = s.slots[j]) ∧
        t.heater.regulating = false ∧ t.stirrer.setting = { s.stirrer.setting with level := 0 } ∧
        t.scale.phase = .none ∧
        t.journal = (Journal.add ⟨u.journal.entries.map (JournalEntry.mapOpen fun e =>
          { e with ending := some (t.engine.clock, .faulted) }), u.journal.written⟩
          (.station s.engine.tag t.engine.clock (.fault .stepTimeout))) ∧
        t = { u with
          chan := s.chan, engine := t.engine, slots := t.slots, heater := t.heater, stirrer := t.stirrer
          scale := t.scale, journal := t.journal
          inbox := { u.inbox with wants := t.inbox.wants, reports := t.inbox.reports } }))

/-! ## Holds and faults -/

/-- R82 to R88: a hold report taken in RUN enters HOLD with its cause, saves the context, stops heater and stirrer and writes
HOLD, and the open entry's hold count rises by 1, at most 255 (R161); the step's own fields stand. PROBE, SCALE and POWER ask for a step they suit. -/
def Obligations.HoldReportInRunEntersHold : Prop :=
  ∀ (s : State) (st : StepRec), s.resetN = true → s.engine.state = .run → curStep s = some st →
    ∀ p ∈ [(Instr.bowlReport, Report.bowl, HoldCause.bowl, true), (.lidReport, .lid, .lid, true),
        (.stallReport, .stall, .stall, true),
        (.probeReport, .probe, .probe, s.handler.probe && st.isHoldAbove),
        (.scaleReport, .scale, .scale, st.isWeigh), (.overweight, .overweight, .scale, st.isWeigh),
        (.lostPower, .lostPower, .power, decide (0 < st.claimUnits))],
      p.2.1 ∈ s.inbox.reports →
      (p.2.2.2 = true → ∃ t, exec p.1 s = .next t ∧
        t.engine = { s.engine with
          state := .hold, causes := HoldSet.empty.add p.2.2.1, saved := t.engine.saved } ∧
        (∃ c, t.engine.saved = some c ∧ c.slot = s.engine.slot ∧ c.index = s.engine.index ∧
          c.phase = s.engine.phase ∧ c.approach = s.engine.approach ∧ c.atTemp = s.engine.atTemp ∧
          c.duration = s.engine.duration ∧ c.timeout = s.engine.timeout ∧ c.accumulator = s.engine.accumulator ∧
          c.dip = s.engine.dip ∧ c.targetNow = s.heater.targetNow ∧
          c.ramp = s.heater.rampBase.map (fun b => (b, s.heater.elapsed)) ∧ c.economy = s.heater.economy ∧
          c.patternPos = s.stirrer.patternPos ∧ c.lifted = decide (p.2.2.1 = .bowl) ∧
          (st.isWeigh = true → c.weigh = some s.scale.save) ∧ (st.isWeigh = false → c.weigh = none)) ∧
        t.heater.regulating = false ∧ t.heater.applied ≤ s.heater.applied ∧
        t.stirrer.setting = { s.stirrer.setting with level := 0 } ∧
        (st.isWeigh = true → t.scale = { s.scale with suspended := true, reported := false }) ∧
        (st.isWeigh = false → t.scale = s.scale) ∧
        (let j := s.journal.add (.station s.engine.tag s.engine.clock (.hold p.2.2.1))
         t.journal = { j with
          entries := j.entries.map (JournalEntry.mapOpen fun e => { e with holds := min 255 (e.holds + 1) }) }) ∧
        t = { s with
          engine := t.engine, heater := t.heater, stirrer := t.stirrer, scale := t.scale, journal := t.journal,
          inbox := { s.inbox with wants := t.inbox.wants, reports := s.inbox.reports.erase p.2.1 } }) ∧
      (p.2.2.2 = false → exec p.1 s = .next
        { s with inbox := { s.inbox with reports := s.inbox.reports.erase p.2.1 } })

/-- R82 to R84, R88: a hold report in HOLD adds its cause, writes HOLD only for a new cause, and a BOWL sets the bowl-lifted flag. PROBE,
SCALE and POWER ask for a step they suit, and a report for another step is not acted on. R79: nor is one outside RUN and HOLD. -/
def Obligations.HoldReportOutsideRun : Prop :=
  ∀ (s : State), s.resetN = true →
    (s.engine.state = .hold →
    ∀ p ∈ [(Instr.bowlReport, Report.bowl, HoldCause.bowl), (.lidReport, .lid, .lid), (.stallReport, .stall, .stall)],
      p.2.1 ∈ s.inbox.reports → ∃ t, exec p.1 s = .next t ∧
        t.engine.state = .hold ∧ t.engine.causes = s.engine.causes.add p.2.2 ∧
        t.engine.saved = s.engine.saved.map (fun c => { c with lifted := c.lifted || decide (p.2.2 = .bowl) }) ∧
        t.journal = (if s.engine.causes.has p.2.2 = true then s.journal
          else s.journal.add (.station s.engine.tag s.engine.clock (.hold p.2.2))) ∧
        t.engine = { s.engine with causes := t.engine.causes, saved := t.engine.saved } ∧
        t = { s with
          engine := t.engine, journal := t.journal
          inbox := { s.inbox with reports := s.inbox.reports.erase p.2.1 } }) ∧
    (∀ st : StepRec, s.engine.state = .hold → curStep s = some st →
    ∀ p ∈ [(Instr.probeReport, Report.probe, HoldCause.probe, s.handler.probe && st.isHoldAbove),
        (.scaleReport, .scale, .scale, st.isWeigh), (.overweight, .overweight, .scale, st.isWeigh),
        (.lostPower, .lostPower, .power, decide (0 < st.claimUnits))],
      p.2.1 ∈ s.inbox.reports →
      let u := { s with inbox := { s.inbox with reports := s.inbox.reports.erase p.2.1 } }
      (p.2.2.2 = true → exec p.1 s = .next { u with
        engine := { s.engine with causes := s.engine.causes.add p.2.2.1 }
        journal := if s.engine.causes.has p.2.2.1 = true then s.journal
          else s.journal.add (.station s.engine.tag s.engine.clock (.hold p.2.2.1)) }) ∧
      (p.2.2.2 = false → exec p.1 s = .next u)) ∧
    (s.engine.state.active = false →
    ∀ p ∈ [(Instr.bowlReport, Report.bowl), (.lidReport, .lid), (.stallReport, .stall), (.probeReport, .probe),
        (.scaleReport, .scale), (.overweight, .overweight), (.lostPower, .lostPower), (.addSatisfied, .addSatisfied)],
      p.2 ∈ s.inbox.reports →
        exec p.1 s = .next { s with inbox := { s.inbox with reports := s.inbox.reports.erase p.2 } })

/-- R94 to R96: a fault report latches its code from every state but FAULT, where it writes FAULT_AGAIN alone. A run under way ends: its
entry closed FAULTED, the context and the causes emptied, the slot READY; the step's fields are cleared in every case. -/
def Obligations.FaultReportLatchesOrIsWrittenAgain : Prop :=
  ∀ (s : State), s.resetN = true →
    ∀ p ∈ [(Instr.sensor, Report.sensor, FaultCode.sensor), (.overtemp, .overtemp, .overtemp),
        (.lidSense, .lidSense, .lidSense), (.budgetMismatch, .budgetMismatch, .config), (.barred, .barred, .barred)],
      p.2.1 ∈ s.inbox.reports →
      (s.engine.state ≠ .fault → ∃ t, exec p.1 s = .next t ∧
        t.engine = { s.engine with
          state := .fault, fault := some p.2.2, phase := .none, approach := none, atTemp := false, duration := 0,
          timeout := 0, accumulator := 0, dip := 0, prompt := 0
          saved := if s.engine.state.active = true then none else s.engine.saved
          causes := if s.engine.state.active = true then .empty else s.engine.causes } ∧
        (s.engine.state.active = false ∨ s.engine.slot = none → t.slots = s.slots) ∧
        (∀ k, s.engine.state.active = true → s.engine.slot = some k → t.slots[k] = { s.slots[k] with state := .ready } ∧
          ∀ j : Fin 4, j ≠ k → t.slots[j] = s.slots[j]) ∧
        t.heater.regulating = false ∧ t.heater.applied ≤ s.heater.applied ∧ t.heater.usable = s.heater.usable ∧
        t.stirrer.setting = { s.stirrer.setting with level := 0 } ∧ t.stirrer.suspended = false ∧
        t.scale = { s.scale with
          phase := .none, suspended := false, target := 0, tolerance := 0, reReference := none, added := none,
          overTarget := none, reported := false, early := 0 } ∧
        t.journal = (Journal.add (if s.engine.state.active = true then
          ⟨s.journal.entries.map (JournalEntry.mapOpen fun e =>
            { e with ending := some (s.engine.clock, .faulted) }), s.journal.written⟩ else s.journal)
          (.station s.engine.tag s.engine.clock (.fault p.2.2))) ∧
        t = { s with
          engine := t.engine, heater := t.heater, stirrer := t.stirrer, scale := t.scale, slots := t.slots,
          journal := t.journal
          inbox := { s.inbox with wants := t.inbox.wants, reports := s.inbox.reports.erase p.2.1 } }) ∧
      (s.engine.state = .fault → exec p.1 s = .next { s with
        journal := s.journal.add (.station s.engine.tag s.engine.clock (.faultAgain p.2.2))
        inbox := { s.inbox with reports := s.inbox.reports.erase p.2.1 } })

/-! ## Taken frames and requests -/

/-- R53, R170, R171, R173: a taken frame of a peer is checked good, and in LIVE and LISTEN its source is noted: a PRESENT row's
silence timer restarts and the station leaves the pending evict mask, the EVICT slot following. A REPLY or a frame of kind 9 to 15
does nothing else. R166: a frame that a RESTART abandoned ends without effect and without a verdict, and the line's next idle ends it
as well. -/
def Obligations.TakenFramesAreNoted : Prop :=
  (∀ (src : Station) (dst : Dest) (a b : Byte) (w : Word16) (m : MarkSet) (marks : Option (Byte × MarkSet))
    (record : StepBytes) (args : Option StartArgs) (opening : Option (Byte × Byte)) (closing : Option (Byte × Word16))
    (verdict : BadVerdict) (s : State), s.resetN = true → s.line.abandoned = true →
    ∀ c ∈ [Instr.claim src dst a b, .evict src dst w, .presence src dst a b a b marks, .mark src dst a m,
        .setup src dst w w a, .stepLoad src dst a b record, .otherKindTaken src dst 9, .start src dst args,
        .pause src dst, .resume src dst, .abort src dst, .skip src dst, .confirm src dst, .clear src dst,
        .tare src dst, .openSlot src dst opening, .closeSlot src dst closing, .restart src dst,
        .unknownCommand src dst 0, .status src dst, .sample src dst, .row src dst a, .slot src dst a,
        .step src dst a, .journal src dst a, .marks src dst a, .unknownItem src dst 0 a, .frameFoundBad verdict,
        .frameSpoiled],
      exec c s = .next { s with line := { s.line with abandoned := false, verdict := .nothing } }) ∧
  (∀ (rival : Option Byte) (s : State), s.resetN = true →
    ∃ t, exec (.offer rival) s = .next t ∧ t.line.abandoned = false ∧ t.line.verdict = s.line.verdict) ∧
  ∀ (src : Station) (dst : Dest) (kind : Fin 16) (s : State), PeerFrame src s → (kind.val = 7 ∨ 9 ≤ kind.val) →
    let t := noted src s; let row := s.share.rows[src]; let p := s.line.participation
    exec (.otherKindTaken src dst kind) s = .next t ∧
    t.line.spoil = (if p = .live then 0 else s.line.spoil) ∧
    t.line.verdict = (if p = .live then .taken else .nothing) ∧
    t.line.onLine.map LineFrame.frame = s.line.onLine.map LineFrame.frame ∧
    ((p = .live ∨ p = .listen) → row.status = .present →
      t.share.rows = s.share.rows.set src.val { row with silence := .running } ∧
      t.share.pendingEvict = s.share.pendingEvict &&& ~~~(1#16 <<< src.val) ∧
      t.tx.evict = (if t.share.pendingEvict = 0 then none else some t.share.pendingEvict)) ∧
    ((p ≠ .live ∧ p ≠ .listen) ∨ row.status ≠ .present → t.share = s.share ∧ t.tx = s.tx) ∧
    t = { s with
      line := { s.line with spoil := t.line.spoil, verdict := t.line.verdict, onLine := t.line.onLine }
      share := { s.share with rows := t.share.rows, pendingEvict := t.share.pendingEvict }
      tx := { s.tx with evict := t.tx.evict } }

/-- R172, R178: a taken frame with the own number bars the station and is handed to no block; from LIVE, LEFT_LIVE and lost power
come first. No RESTART is pending and the frame is not one that a RESTART abandoned. -/
def Obligations.DuplicateNumberBarsTheStation : Prop :=
  ∀ (dst : Dest) (a b : Byte) (w : Word16) (m : MarkSet) (marks : Option (Byte × MarkSet)) (record : StepBytes)
    (args : Option StartArgs) (opening : Option (Byte × Byte)) (closing : Option (Byte × Word16)) (s : State),
    s.resetN = true → s.line.abandoned = false → s.line.participation ≠ .barred → s.handler.restartPending = false →
    ∀ c ∈ [Instr.claim s.own dst a b, .evict s.own dst w, .presence s.own dst a b a b marks, .mark s.own dst a m,
        .setup s.own dst w w a, .stepLoad s.own dst a b record, .otherKindTaken s.own dst 9, .start s.own dst args,
        .pause s.own dst, .resume s.own dst, .abort s.own dst, .skip s.own dst, .confirm s.own dst, .clear s.own dst,
        .tare s.own dst, .openSlot s.own dst opening, .closeSlot s.own dst closing, .restart s.own dst,
        .unknownCommand s.own dst 0, .status s.own dst, .sample s.own dst, .row s.own dst a, .slot s.own dst a,
        .step s.own dst a, .journal s.own dst a, .marks s.own dst a, .unknownItem s.own dst 0 a],
      ∃ t, exec c s = .next t ∧
        t.line.participation = .barred ∧ t.line.window = .stopped ∧ t.line.ownSilence = .stopped ∧
        t.line.quiet = .stopped ∧ t.tx.mark = none ∧
        (s.line.participation = .live →
          t.line.presence = .stopped ∧ t.tx = TxSlots.reset ∧ t.ownRow = { s.ownRow with grant := 0 } ∧
          t.share.pendingEvict = 0 ∧ t.share.reviewTimer = .stopped ∧ t.share.usable = 0 ∧
          t.journal = s.journal.add (.station s.engine.tag s.engine.clock (.leftLive .barred)) ∧
          t.inbox.reports = s.inbox.reports ++ [.lostPower, .barred]) ∧
        (s.line.participation ≠ .live →
          t.share = s.share ∧ t.journal = s.journal ∧ t.tx = { s.tx with mark := none } ∧
          t.inbox.reports = s.inbox.reports ++ [.barred]) ∧
        (∀ i : Station, i ≠ s.own → t.share.rows[i] = s.share.rows[i]) ∧
        t = { s with
          line := t.line, tx := t.tx, share := t.share, journal := t.journal
          inbox := { s.inbox with usables := t.inbox.usables, reports := t.inbox.reports } }

/-- R179, R182, R183: a request not acted on is noted and nothing else; a directed COMMAND in LIVE is checked for NOT_SET,
NOT_PANEL, UNKNOWN and BAD_FIELD (too short) in this order, and its reply carries the STATUS data. A STEP LOAD is checked for NOT_SET and
NOT_PANEL likewise, and its reply carries the SLOT data, none for a slot outside 0 to 3 (log entry 23). -/
def Obligations.RequestsAreCheckedInOrder : Prop :=
  ∀ (src : Station) (dst : Dest) (a b code : Byte) (w : Word16) (record : StepBytes) (args : Option StartArgs)
    (opening : Option (Byte × Byte)) (closing : Option (Byte × Word16)) (s : State), PeerFrame src s →
    (code.toNat = 0 ∨ 12 ≤ code.toNat) →
    let n := noted src s
    let commands : List Instr := [.pause src dst, .resume src dst, .abort src dst, .skip src dst, .confirm src dst,
      .clear src dst, .tare src dst, .openSlot src dst opening, .closeSlot src dst closing, .restart src dst,
      .unknownCommand src dst code]
    let others : List Instr := [.setup src dst w w a, .stepLoad src dst a b record, .status src dst, .sample src dst,
      .row src dst a, .slot src dst a, .step src dst a, .journal src dst a, .marks src dst a, .unknownItem src dst 0 a]
    (s.line.participation ≠ .live ∨ dst.val ≠ s.own.val ∨ s.handler.restartPending = true →
      (∀ c ∈ commands ++ others, exec c s = .next n) ∧
      (dst.val ≠ 31 ∨ s.handler.panel ≠ some src ∨ s.handler.restartPending = true →
        exec (.start src dst args) s = .next n)) ∧
    (s.line.participation = .live → dst.val = s.own.val → s.handler.restartPending = false →
      (s.handler.panel = none →
        ∀ c ∈ Instr.start src dst args :: commands, exec c s = .next (commandReplied src .notSet n)) ∧
      (s.handler.panel ≠ none → s.handler.panel ≠ some src →
        ∀ c ∈ Instr.start src dst args :: commands, exec c s = .next (commandReplied src .notPanel n)) ∧
      (s.handler.panel ≠ some src →
        let r : ResultCode := if s.handler.panel = none then .notSet else .notPanel
        (∀ k : Fin 4, a.toNat = k.val → exec (.stepLoad src dst a b record) s = .next
          (setReplySlot (some ⟨src, 5, r, 0, slotData s.slots[k]⟩) n)) ∧
        (4 ≤ a.toNat → exec (.stepLoad src dst a b record) s = .next
          (setReplySlot (some ⟨src, 5, r, 0, []⟩) n))) ∧
      (s.handler.panel = some src →
        exec (.unknownCommand src dst code) s = .next (commandReplied src .unknown n) ∧
        ∀ c ∈ [Instr.start src dst none, .openSlot src dst none, .closeSlot src dst none],
          exec c s = .next (commandReplied src .badField n)))

/-- R25, R26, R27: the checks of a START and what one that passes does before step 0 is entered: the run under way superseded, the
slots lent, tag and mask taken, board and MARK slot emptied, run clock 0, RUN. Broadcast, it is acted on in every participation
state and not answered. -/
def Obligations.StartBeginsTheRun : Prop :=
  ∀ (src : Station) (dst : Dest) (a : StartArgs) (s : State), PeerFrame src s → s.handler.panel = some src →
    s.handler.restartPending = false →
    let n := noted src s; let active := s.engine.state = .run ∨ s.engine.state = .hold
    ∀ k : Fin 4, k.val = a.slots.toNat / 4 ^ s.own.val % 4 →
    let passes := a.mask.getLsbD s.own.val = true ∧ a.tag ≠ 0 ∧ s.engine.state ≠ .unready ∧ s.engine.state ≠ .fault ∧
      (s.slots[k].state = .ready ∨ s.slots[k].state = .running)
    let refusal : ResultCode := if a.mask.getLsbD s.own.val = false ∨ a.tag = 0 then .badField
      else if s.engine.state = .unready ∨ s.engine.state = .fault then .refusedState else .refusedSlot
    (¬passes →
      (dst.val = 31 → exec (.start src dst (some a)) s = .next n) ∧
      (dst.val = s.own.val → s.line.participation = .live →
        exec (.start src dst (some a)) s = .next (commandReplied src refusal n))) ∧
    (passes →
      let ended := fun e : JournalEntry => if active then
        JournalEntry.mapOpen (fun e => { e with ending := some (s.engine.clock, .superseded) }) e else e
      let u := setMarkSlot none { n with
        engine := { s.engine with
          state := .run, slot := some k, index := 0, tag := a.tag, mask := a.mask, clock := 0,
          saved := if active then none else s.engine.saved, causes := if active then .empty else s.engine.causes }
        slots := Vector.ofFn fun j => if j = k then { s.slots[j] with state := .running }
          else if s.slots[j].state = .running then { s.slots[j] with state := .ready } else s.slots[j]
        board := Board.reset
        journal := { s.journal with entries := s.journal.entries.map ended } }
      (dst.val = 31 → exec (.start src dst (some a)) s = .next (stepEntry u)) ∧
      (dst.val = s.own.val → s.line.participation = .live →
        exec (.start src dst (some a)) s = .next (commandReplied src .done (stepEntry u))))

/-- R44, R80: PAUSE enters HOLD from RUN, the open entry's hold count raised by 1 (R86, R161), and adds its cause in HOLD; ABORT ends the run; in every other state both are refused. -/
def Obligations.PauseHoldsAndAbortEndsTheRun : Prop :=
  ∀ (src : Station) (dst : Dest) (s : State), FromPanel src dst s → let n := noted src s
    (s.engine.state = .run → ∃ t, exec (.pause src dst) s = .next (commandReplied src .done t) ∧
      t.engine = { s.engine with
        state := .hold, causes := HoldSet.empty.add .pause, saved := t.engine.saved } ∧
      t.engine.saved.isSome = true ∧ t.heater.regulating = false ∧
      t.stirrer.setting = { s.stirrer.setting with level := 0 } ∧
      (let j := s.journal.add (.station s.engine.tag s.engine.clock (.hold .pause))
       t.journal = { j with
        entries := j.entries.map (JournalEntry.mapOpen fun e => { e with holds := min 255 (e.holds + 1) }) }) ∧
      t = { n with
        engine := t.engine, heater := t.heater, stirrer := t.stirrer, scale := t.scale, journal := t.journal
        inbox := { n.inbox with wants := t.inbox.wants } }) ∧
    (s.engine.state = .hold → exec (.pause src dst) s = .next (commandReplied src .done
      { n with
        engine := { s.engine with causes := s.engine.causes.add .pause }
        journal := if s.engine.causes.pause = true then s.journal
          else s.journal.add (.station s.engine.tag s.engine.clock (.hold .pause)) })) ∧
    (s.engine.state = .run ∨ s.engine.state = .hold →
      ∃ t, exec (.abort src dst) s = .next (commandReplied src .done t) ∧
        t.engine = { s.engine with
          state := .idle, saved := none, causes := .empty, phase := .none, approach := none, atTemp := false,
          duration := 0, timeout := 0, accumulator := 0, dip := 0, prompt := 0 } ∧
        (∀ k, s.engine.slot = some k → t.slots[k] = { s.slots[k] with state := .ready } ∧
          ∀ j : Fin 4, j ≠ k → t.slots[j] = s.slots[j]) ∧
        t.heater.regulating = false ∧ t.stirrer.setting = { s.stirrer.setting with level := 0 } ∧
        t.scale.phase = .none ∧
        t.journal = ⟨s.journal.entries.map
          (JournalEntry.mapOpen fun e => { e with ending := some (s.engine.clock, .aborted) }), s.journal.written⟩ ∧
        t = { n with
          engine := t.engine, slots := t.slots, heater := t.heater, stirrer := t.stirrer, scale := t.scale
          journal := t.journal, inbox := { n.inbox with wants := t.inbox.wants } }) ∧
    (s.engine.state ≠ .run → s.engine.state ≠ .hold →
      exec (.pause src dst) s = .next (commandReplied src .refusedState n) ∧
      exec (.abort src dst) s = .next (commandReplied src .refusedState n))

/-- R89 to R91, R111: a RESUME in HOLD whose conditions of Table 4-3 are met restores the step from the saved context, hands heater,
stirrer and scale their saved state and writes RESUMED; one of them not met, it changes nothing. The station is LIVE. A latest gross
weight that is absent passes the SCALE test (log entry 20). R105, R107: a running period that is not cut takes its units and on-slots
anew, its slot position kept; a cut one stays cut (log entries 13 and 35). -/
def Obligations.ResumeRestoresTheSavedStep : Prop :=
  ∀ (src : Station) (dst : Dest) (s : State), FromPanel src dst s → let n := noted src s
    (s.engine.state ≠ .hold → exec (.resume src dst) s = .next (commandReplied src .refusedState n)) ∧
    (∀ (st : StepRec) (c : SavedContext), s.engine.state = .hold → curStep s = some st → s.engine.saved = some c →
      let met := s.chan.latest.bowl = true ∧ (st.setting.level < 5 ∨ s.chan.latest.lid = true) ∧
        (s.engine.causes.probe = false ∨ s.chan.foodRange.present = false) ∧
        (s.engine.causes.scale = false ∨ s.chan.wgtRange.present = false ∧ overweight s.scale.latestGross = false)
      (¬met → exec (.resume src dst) s = .next (commandReplied src .holdPersists n)) ∧
      (met → ∃ t, exec (.resume src dst) s = .next (commandReplied src .done t) ∧
        t.engine = { s.engine with
          state := .run, phase := c.phase, approach := c.approach, atTemp := c.atTemp, duration := c.duration,
          timeout := c.timeout, accumulator := c.accumulator, dip := c.dip, causes := .empty, saved := none } ∧
        t.heater.regulating = true ∧ t.heater.target = st.target ∧ t.heater.ramp = st.ramp ∧
        t.heater.claimUnits = st.claimUnits ∧ t.heater.holdUnits = st.holdUnits ∧ t.heater.approach = c.approach ∧
        t.heater.targetNow = c.targetNow ∧ t.heater.economy = c.economy ∧ t.heater.economyCount = 0 ∧
        t.heater.entrySample = none ∧
        (∀ b e, c.ramp = some (b, e) → t.heater.rampBase = some b ∧ t.heater.elapsed = e) ∧
        (c.ramp = none → t.heater.rampBase = none) ∧
        t.heater.want = (if st.target = 0 then 0
          else if c.economy = .full then st.claimUnits else st.holdUnits) ∧
        t.heater.cut = s.heater.cut ∧ t.heater.slotPos = s.heater.slotPos ∧ t.heater.usable = s.heater.usable ∧
        t.heater.overTemp = s.heater.overTemp ∧ t.heater.periodRunning = s.heater.periodRunning ∧
        (s.heater.cut = true ∨ s.heater.periodRunning = false →
          t.heater.applied = s.heater.applied ∧ t.heater.onSlots = s.heater.onSlots) ∧
        (s.heater.cut = false → s.heater.periodRunning = true →
          t.heater.applied = (if st.claimUnits = 0 then 0
            else min (demand s.rating st.target c.targetNow s.chan.latest.base) s.heater.usable) ∧
          t.heater.onSlots = onSlotsOf s.rating t.heater.applied) ∧
        t.stirrer.setting = st.setting ∧ t.stirrer.patternPos = c.patternPos ∧
        (c.weigh = none → t.scale.phase = .none) ∧
        (∀ w, c.weigh = some w → t.scale.suspended = false ∧ t.scale.reference = w.reference ∧
          (w.phase = .settle → t.scale.phase = .settle ∧ t.scale.reReference = none) ∧
          (w.phase = .add → c.lifted = false → s.scale.reReference = none →
            t.scale.phase = .add ∧ t.scale.added = w.added) ∧
          (w.phase = .add → (c.lifted = true ∨ s.scale.reReference ≠ none) →
            t.scale.phase = .settle ∧ t.scale.reReference = w.added)) ∧
        t.journal = s.journal.add (.station s.engine.tag s.engine.clock .resumed) ∧
        t = { n with
          engine := t.engine, heater := t.heater, stirrer := t.stirrer, scale := t.scale, journal := t.journal
          inbox := { n.inbox with wants := t.inbox.wants, reports := t.inbox.reports } }))

/-- R38, R43: SKIP exits the step SKIPPED, and CONFIRM exits a CONFIRM step COMPLETED; in RUN a CONFIRM of another step is
NOT_WAITING, and outside RUN both are refused. -/
def Obligations.SkipAndConfirmExitTheStep : Prop :=
  ∀ (src : Station) (dst : Dest) (s : State), FromPanel src dst s → let n := noted src s
    (∀ st : StepRec, s.engine.state = .run → curStep s = some st →
      exec (.skip src dst) s = .next (commandReplied src .done (stepExit .skipped st n)) ∧
      (st.kind = .confirm →
        exec (.confirm src dst) s = .next (commandReplied src .done (stepExit .completed st n))) ∧
      (st.kind ≠ .confirm → exec (.confirm src dst) s = .next (commandReplied src .notWaiting n))) ∧
    (s.engine.state ≠ .run →
      exec (.skip src dst) s = .next (commandReplied src .refusedState n) ∧
      exec (.confirm src dst) s = .next (commandReplied src .refusedState n))

/-- R95, R97: CLEAR by Table 4-5, and the other faults tested in the order of Table 4-4: the first that stands is latched, each further
one writes FAULT_AGAIN. The latch in IDLE clears the step's fields, stops the heater, the stirrer and the weigh phase, and keeps tag,
clock, slot and index. -/
def Obligations.ClearTestsTheOtherFaults : Prop :=
  ∀ (src : Station) (dst : Dest) (s : State), FromPanel src dst s → let n := noted src s
    (s.engine.state ≠ .fault → exec (.clear src dst) s = .next (commandReplied src .refusedState n)) ∧
    (∀ code : FaultCode, s.engine.state = .fault → s.engine.fault = some code →
      let met := code ≠ .config ∧ code ≠ .barred ∧
        (code = .overtemp → 300 ≤ s.chan.latest.base ∧ s.chan.latest.base ≤ 1199) ∧
        (code = .sensor → s.chan.baseRange.present = false) ∧
        (code = .lidSense → s.chan.latest.lid = true ∨ s.chan.latest.lock = false)
      (¬met → exec (.clear src dst) s = .next (commandReplied src .faultPersists n)) ∧
      (met → ∃ t, exec (.clear src dst) s = .next (commandReplied src .done t) ∧
        let left := [FaultCode.overtemp, .sensor, .lidSense, .stepTimeout, .config, .barred].filter
          fun c => c ≠ code && standing s c
        (left = [] → t = { n with
          engine := { s.engine with state := .idle, fault := none }
          journal := s.journal.add (.station s.engine.tag s.engine.clock .cleared) }) ∧
        (∀ c rest, left = c :: rest →
          t.engine = { s.engine with
            state := .fault, fault := some c, phase := .none, approach := none, atTemp := false, duration := 0,
            timeout := 0, accumulator := 0, dip := 0, prompt := 0 } ∧
          t.heater.regulating = false ∧ (s.heater.regulating = false → t.heater = s.heater) ∧
          t.stirrer = (giveStop s).stirrer ∧ t.stirrer.setting = { s.stirrer.setting with level := 0 } ∧
          t.scale = { s.scale with
            phase := .none, suspended := false, target := 0, tolerance := 0, reReference := none, added := none,
            overTarget := none, reported := false, early := 0 } ∧
          t.journal = (StationEvent.cleared :: .fault c :: rest.map .faultAgain).foldl
            (fun j e => j.add (.station s.engine.tag s.engine.clock e)) s.journal ∧
          t = { n with
            engine := t.engine, heater := t.heater, stirrer := t.stirrer, scale := t.scale, journal := t.journal
            inbox := { n.inbox with wants := t.inbox.wants } })))

/-- R139: TARE in IDLE and ENDED at a steady set takes that set's count as the reference; else it changes nothing. R131, R181: the
checks of a SETUP in order, and what a SETUP taken sets; its reply carries the STATUS data. The detail of a SETUP reply other than
BAD_FIELD is 0 (section 11.1, log entry 5). -/
def Obligations.TareAndSetupSetTheScale : Prop :=
  (∀ (src : Station) (dst : Dest) (s : State), FromPanel src dst s → let n := noted src s
    (s.engine.state = .idle ∨ s.engine.state = .ended →
      (∀ count, s.scale.steady = true → s.scale.latestCount = some count → exec (.tare src dst) s = .next
        (commandReplied src .done { n with scale := { s.scale with reference := count } })) ∧
      (s.scale.steady = false → exec (.tare src dst) s = .next (commandReplied src .notSteady n))) ∧
    (s.engine.state ≠ .idle → s.engine.state ≠ .ended →
      exec (.tare src dst) s = .next (commandReplied src .refusedState n))) ∧
  ∀ (src : Station) (dst : Dest) (zero cpk : Word16) (probe : Byte) (s : State), Directed src dst s →
    let n := noted src s
    let busy := s.engine.state = .run ∨ s.engine.state = .hold ∨ (s.engine.state = .fault ∧ s.handler.panel ≠ none)
    let zeroGood := 1000 ≤ zero.toNat ∧ zero.toNat ≤ 60000
    let cpkGood := 1000 ≤ cpk.toNat ∧ cpk.toNat ≤ 20000
    (s.handler.panel ≠ none → s.handler.panel ≠ some src → exec (.setup src dst zero cpk probe) s = .next
      (setReplySlot (some ⟨src, 4, .notPanel, 0, statusData n⟩) n)) ∧
    (s.handler.panel = none ∨ s.handler.panel = some src →
      (busy → exec (.setup src dst zero cpk probe) s = .next
        (setReplySlot (some ⟨src, 4, .refusedState, 0, statusData n⟩) n)) ∧
      (¬busy → ¬(zeroGood ∧ cpkGood ∧ probe.toNat ≤ 1) → exec (.setup src dst zero cpk probe) s = .next
        (setReplySlot (some ⟨src, 4, .badField,
          (if ¬zeroGood then 1 else if ¬cpkGood then 2 else 3), statusData n⟩) n)) ∧
      (¬busy → zeroGood → cpkGood → probe.toNat ≤ 1 →
        let t := { n with
          handler := { s.handler with
            zero := zero.toNat, cpk := cpk.toNat, probe := decide (probe = 1), panel := some src }
          scale := { s.scale with
            reference := zero.toNat, history := [], steady := false, latestCount := none, latestGross := none }
          engine := if s.engine.state = .unready then { s.engine with state := .idle } else s.engine }
        exec (.setup src dst zero cpk probe) s = .next
          (setReplySlot (some ⟨src, 4, .done, 0, statusData t⟩) t)))

/-- R2, R3, R9 to R13, R180: OPEN SLOT, STEP LOAD and CLOSE SLOT on a slot, in the order of their checks; no other slot changes. The
validity of each field of a record (Table 1-4) and the reading of its bytes (Table 11-6), field by field. -/
def Obligations.SlotsAreOpenedLoadedAndClosed : Prop :=
  (∀ (rating : Nat) (b : StepBytes),
    let byte := fun i : Fin 16 => b[i].toNat
    let code := byte 0 / 32; let fromTemp := byte 0 / 16 % 2 = 1; let interval := byte 0 / 2 % 2 = 1
    let raises := byte 0 % 2 = 1; let target := byte 1; let level := byte 5
    let a := 256 * byte 8 + byte 9; let b' := 256 * byte 10 + byte 11
    firstBadField rating b = (([
      (1, decide (1 ≤ code ∧ code ≤ 6)),
      (2, decide (fromTemp → code = 1)),
      (4, decide ((target = 0 ∨ (30 ≤ target ∧ target ≤ 200)) ∧ (code = 2 ∨ (code = 1 ∧ fromTemp) → target ≠ 0))),
      (5, decide (byte 2 ≤ 30 ∧ (target = 0 → byte 2 = 0))),
      (6, decide (byte 3 ≤ rating ∧ (target = 0 → byte 3 = 0))),
      (7, decide (byte 4 ≤ byte 3)),
      (8, decide (level ≤ 12 ∧ (code = 5 → level ≤ 2))),
      (10, decide (level = 0 → ¬interval)),
      (11, decide (if interval then 1 ≤ byte 6 ∧ byte 6 ≤ 60 else byte 6 = 0)),
      (12, decide (if interval then 1 ≤ byte 7 ∧ byte 7 ≤ 60 else byte 7 = 0)),
      (13, decide ((code = 1 → 1 ≤ a) ∧ (code = 3 → a = 0) ∧ (code = 4 → 50 ≤ a ∧ a ≤ 100) ∧
        (code = 5 → 1 ≤ a ∧ a ≤ 10000) ∧ (code = 6 → byte 8 ≤ 15 ∧ byte 9 ≤ 31))),
      (14, decide (if code = 4 then 1 ≤ b' ∧ b' ≤ 3600 else if code = 5 then 1 ≤ b' ∧ b' ≤ 50 else b' = 0)),
      (16, decide (if raises then byte 14 ≤ 31 else byte 14 = 0))] : List (Nat × Bool)).find? fun c => !c.2).map
        Prod.fst ∧
    ((readRecord b).isSome = true ↔ 1 ≤ code ∧ code ≤ 6) ∧
    ∀ st : StepRec, readRecord b = some st →
      (code = 1 → st.kind = .time (decide fromTemp) a) ∧ (code = 2 → st.kind = .temp a) ∧
      (code = 3 → st.kind = .confirm) ∧ (code = 4 → st.kind = .holdAbove a b') ∧ (code = 5 → st.kind = .weigh a b') ∧
      (code = 6 → ∀ (station : Station) (m : Fin 32), station.val = byte 8 → m.val = byte 9 →
        st.kind = .mark station m) ∧
      (st.continues = true ↔ byte 0 / 8 % 2 = 1) ∧ st.target = target ∧ st.ramp = byte 2 ∧ st.claimUnits = byte 3 ∧
      st.holdUnits = byte 4 ∧
      st.setting = ⟨level, if byte 0 / 4 % 2 = 1 then .reverse else .forward,
        if interval then .interval else .continuous, byte 6, byte 7⟩ ∧
      st.timeout = 256 * byte 12 + byte 13 ∧ (¬raises → st.raise = none) ∧
      (raises → ∀ m : Fin 32, m.val = byte 14 → st.raise = some m) ∧ st.prompt = b[15]) ∧
  ∀ (src : Station) (dst : Dest) (slot : Byte) (s : State), FromPanel src dst s → let n := noted src s
    (4 ≤ slot.toNat → ∀ (count index : Byte) (check : Word16) (record : StepBytes),
      exec (.openSlot src dst (some (slot, count))) s = .next (commandReplied src .badField n) ∧
      exec (.closeSlot src dst (some (slot, check))) s = .next (commandReplied src .badField n) ∧
      exec (.stepLoad src dst slot index record) s = .next (setReplySlot (some ⟨src, 5, .badField, 0, []⟩) n)) ∧
    ∀ k : Fin 4, slot.toNat = k.val → let old := s.slots[k]
      (∀ count : Byte,
        (old.state = .running →
          exec (.openSlot src dst (some (slot, count))) s = .next (commandReplied src .slotBusy n)) ∧
        (old.state ≠ .running → count.toNat = 0 ∨ 32 < count.toNat →
          exec (.openSlot src dst (some (slot, count))) s = .next (commandReplied src .badField n)) ∧
        (old.state ≠ .running → 1 ≤ count.toNat → count.toNat ≤ 32 → ∃ t,
          exec (.openSlot src dst (some (slot, count))) s = .next (commandReplied src .done t) ∧
          t.slots[k].state = .loading ∧ t.slots[k].count = count.toNat ∧
          (∀ i : Fin 32, t.slots[k].records[i] = none) ∧ (∀ j : Fin 4, j ≠ k → t.slots[j] = s.slots[j]) ∧
          t = { n with slots := t.slots })) ∧
      (∀ (index : Byte) (record : StepBytes),
        let load := exec (.stepLoad src dst slot index record) s
        let answered := fun (r : ResultCode) (field : Nat) (t : State) =>
          setReplySlot (some ⟨src, 5, r, BitVec.ofNat 8 field, slotData t.slots[k]⟩) t
        (old.state = .empty ∨ old.state = .ready → load = .next (answered .refusedSlot 0 n)) ∧
        (old.state = .running → load = .next (answered .slotBusy 0 n)) ∧
        (old.state = .loading →
          (old.count ≤ index.toNat ∨ 32 ≤ index.toNat → load = .next (answered .badField 0 n)) ∧
          (∀ i : Fin 32, index.toNat = i.val → i.val < old.count →
            (∀ field, firstBadField s.rating record = some field → load = .next (answered .badField field n)) ∧
            (firstBadField s.rating record = none → ∃ t, load = .next (answered .done 0 t) ∧
              t.slots[k].records[i] = some record ∧
              (∀ j : Fin 32, j ≠ i → t.slots[k].records[j] = old.records[j]) ∧
              t.slots[k].state = .loading ∧ t.slots[k].count = old.count ∧
              (∀ j : Fin 4, j ≠ k → t.slots[j] = s.slots[j]) ∧ t = { n with slots := t.slots })))) ∧
      (∀ check : Word16,
        let close := exec (.closeSlot src dst (some (slot, check))) s
        let step := fun i => (old.recordAt i).bind readRecord
        let complete := ∀ i < old.count, old.recordAt i ≠ none
        let sum := ((old.records.toList.filterMap id).map recordSum).sum % 65536
        let waitsOnItself := ∃ i < old.count, ∃ m : Fin 32,
          (step i).map StepRec.kind = some (.mark s.own m) ∧ ∀ j < i, (step j).bind StepRec.raise ≠ some m
        (old.state = .empty ∨ old.state = .ready → close = .next (commandReplied src .refusedSlot n)) ∧
        (old.state = .running → close = .next (commandReplied src .slotBusy n)) ∧
        (old.state = .loading →
          (¬complete → close = .next (commandReplied src .incomplete n)) ∧
          (complete → sum ≠ check.toNat → close = .next (commandReplied src .checkMismatch n)) ∧
          (complete → sum = check.toNat → waitsOnItself → close = .next (commandReplied src .selfWait n)) ∧
          (complete → sum = check.toNat → ¬waitsOnItself → ∃ t, close = .next (commandReplied src .done t) ∧
            t.slots[k] = { old with state := .ready } ∧ (∀ j : Fin 4, j ≠ k → t.slots[j] = s.slots[j]) ∧
            t = { n with slots := t.slots })))

/-- R18, R20, R78, R134, R146, R152, R159, R164, R184, Tables 11-8 and 11-9: the reply to each query, byte by byte; a query changes
nothing but the REPLY slot. A detail that no table names is 0 (section 11.1, log entry 5), before SETUP an unknown item is NOT_SET (log
entry 23), the net weight is that of the latest count against the reference as it stands (log entry 21), and a query is answered in LIVE
alone (R182, log entry 37), while the report of a row is the same in every participation state. -/
def Obligations.QueriesAnswerFromTheState : Prop :=
  let b := fun n : Nat => BitVec.ofNat 8 n
  let two := fun n : Nat => [b (n / 256), b n]
  let three := fun n : Nat => [b (n / 65536), b (n / 256), b n]
  let signed := fun z : Int => [(BitVec.ofInt 16 z).extractLsb' 8 8, (BitVec.ofInt 16 z).extractLsb' 0 8]
  let bit := fun (n : Nat) (c : Bool) => if c = true then 2 ^ n else 0
  let temperature := fun count : Nat => signed (max (-400) (min 32767 ((count : Int) - 400)))
  let fault := fun c : FaultCode => match c with
    | .overtemp => 1 | .sensor => 2 | .lidSense => 3 | .stepTimeout => 4 | .config => 5 | .barred => 6
  let cause := fun c : HoldCause => match c with
    | .pause => 0 | .lid => 1 | .bowl => 2 | .power => 3 | .stall => 4 | .probe => 5 | .scale => 6
  (∀ s : State, let e := s.engine; let set := s.chan.latest
    statusData s = [
      b (match e.state with | .unready => 0 | .idle => 1 | .run => 2 | .hold => 3 | .ended => 4 | .fault => 5),
      b (match e.slot with | none => 255 | some k => k.val), b (match e.slot with | none => 0 | some _ => e.index),
      b ((match e.phase with
        | .none => 0 | .counting => 1 | .approaching => 2 | .waiting => 3 | .weighing => 4 | .accumulating => 5) +
          bit 7 e.atTemp),
      b (bit 0 e.causes.pause + bit 1 e.causes.lid + bit 2 e.causes.bowl + bit 3 e.causes.power +
        bit 4 e.causes.stall + bit 5 e.causes.probe + bit 6 e.causes.scale),
      b (match e.fault with | none => 0 | some c => fault c), e.tag] ++ three e.clock ++
      [b s.ownRow.want, b s.ownRow.grant, b s.share.usable] ++ two s.journal.written ∧
    sampleDetail s = b (bit 0 set.boundary + bit 1 set.bowl + bit 2 set.lid + bit 3 set.lock + bit 4 s.scale.steady) ∧
    sampleData s = two set.seq ++ two set.wgt ++ two set.base ++ two set.food ++ two set.tach ++
      temperature set.base ++ temperature set.food ++ two (min 65535 (10 * set.tach)) ++
      signed (match s.scale.latestCount with
        | none => 0
        | some count => if s.handler.cpk = 0 then 0 else
          max (-32768) (min 32767 ((((count : Int) - s.scale.reference) * 1000).tdiv s.handler.cpk)))) ∧
  (∀ slot : Slot, slotData slot =
    [b (match slot.state with | .empty => 0 | .loading => 1 | .ready => 2 | .running => 3), b slot.count] ++
      two (((slot.records.toList.filterMap id).map recordSum).sum % 65536)) ∧
  (∀ e : StepEntry, (JournalEntry.step e).reply = (1,
    [e.tag, b (64 * (match e.slot with | none => 0 | some k => k.val) + e.index % 32)] ++ three e.start ++ [b e.holds] ++
      (match e.peak with | none => [0, 0] | some q => signed (max (-32768) (min 32767 q))) ++
      (match e.added with | none => [0, 0] | some g => signed (max (-32768) (min 32767 g))) ++
      [b (bit 0 e.peak.isSome + bit 1 e.added.isSome + bit 2 (decide (e.overTarget = some true)) +
        bit 3 e.ending.isSome)] ++
      match e.ending with
      | none => [0, 0, 0, 0]
      | some (second, c) => three second ++ [b (match c with
        | .completed => 1 | .timedOut => 2 | .skipped => 3 | .aborted => 4 | .superseded => 5 | .faulted => 6)])) ∧
  (∀ (tag : Byte) (second : Nat) (event : StationEvent), (JournalEntry.station tag second event).reply = (2,
    [tag] ++ three second ++ match event with
      | .hold c => [1, b (cause c)]
      | .resumed => [2, 0]
      | .fault c => [3, b (fault c)]
      | .faultAgain c => [4, b (fault c)]
      | .cleared => [5, 0]
      | .evicted source => [6, b source.val]
      | .leftLive reason =>
        [7, b (match reason with | .ownSilence => 1 | .lineFault => 2 | .barred => 3 | .unchecked => 4)]
      | .joined => [8, 0]
      | .disagree station => [9, b station.val])) ∧
  (∀ (index : Byte) (s : State), (16 ≤ index.toNat → rowItem index s = none) ∧ ∀ i : Station, index.toNat = i.val →
    rowItem index s = some (b 0, [b (match s.share.rows[i].status with | .absent => 0 | .present => 1 | .self => 2),
      b s.share.rows[i].grant, b s.share.rows[i].want])) ∧
  ∀ (src : Station) (dst : Dest) (index item : Byte) (s : State), Directed src dst s →
    (item.toNat = 0 ∨ 8 ≤ item.toNat) → let n := noted src s
    let done := fun (detail : Byte) (data : List Byte) => setReplySlot (some ⟨src, 6, .done, detail, data⟩) n
    let without := fun r : ResultCode => setReplySlot (some ⟨src, 6, r, 0, []⟩) n
    exec (.status src dst) s = .next (done (BitVec.ofNat 8 s.line.participation.code) (statusData n)) ∧
    (statusData n).length = 15 ∧
    (s.handler.panel = none →
      ∀ c ∈ [Instr.sample src dst, .row src dst index, .slot src dst index, .step src dst index,
          .journal src dst index, .marks src dst index, .unknownItem src dst item index],
        exec c s = .next (without .notSet)) ∧
    (s.handler.panel ≠ none →
      let refused := without .badField
      (exec (.sample src dst) s = .next (done (sampleDetail s) (sampleData s)) ∧ (sampleData s).length = 18) ∧
      (∀ i : Station, index.toNat = i.val →
        exec (.row src dst index) s = .next (done 0 [BitVec.ofNat 8 n.share.rows[i].status.code,
          BitVec.ofNat 8 n.share.rows[i].grant, BitVec.ofNat 8 n.share.rows[i].want]) ∧
        exec (.marks src dst index) s = .next (done 0 [s.board.rows[i].extractLsb' 24 8,
          s.board.rows[i].extractLsb' 16 8, s.board.rows[i].extractLsb' 8 8, s.board.rows[i].extractLsb' 0 8])) ∧
      (16 ≤ index.toNat → exec (.row src dst index) s = .next refused ∧ exec (.marks src dst index) s = .next refused) ∧
      (∀ k : Fin 4, index.toNat = k.val → exec (.slot src dst index) s = .next (done 0 (slotData s.slots[k]))) ∧
      (4 ≤ index.toNat → exec (.slot src dst index) s = .next refused) ∧
      (index.getLsbD 5 = true → exec (.step src dst index) s = .next refused) ∧
      (index.getLsbD 5 = false → ∀ k : Fin 4, index.toNat / 64 = k.val →
        (∀ b, index.toNat % 32 < s.slots[k].count → s.slots[k].recordAt (index.toNat % 32) = some b →
          exec (.step src dst index) s = .next (done 1 b.toList)) ∧
        (s.slots[k].count ≤ index.toNat % 32 ∨ s.slots[k].recordAt (index.toNat % 32) = none →
          exec (.step src dst index) s = .next (done 0 []))) ∧
      (s.journal.entries.length ≤ index.toNat → exec (.journal src dst index) s = .next (done 0 [])) ∧
      (∀ e, s.journal.entries.reverse[index.toNat]? = some e →
        exec (.journal src dst index) s = .next (done e.reply.1 e.reply.2)) ∧
      exec (.unknownItem src dst item index) s = .next (without .unknown))

/-! ## Share unit and mark board -/

/-- R53, R54, R71, R73: a peer's CLAIM: in LIVE a release takes the requested grant and an increase is bounded by B less the other
rows, in LISTEN only a release is computed; the recorded want is at most 25. Elsewhere, and for a destination of 16 to 30, the
frame is only noted. -/
def Obligations.PeerClaimsSetTheGrant : Prop :=
  ∀ (src : Station) (dst : Dest) (requested want : Byte) (s : State), PeerFrame src s →
    let n := noted src s; let row := n.share.rows[src]; let command := Instr.claim src dst requested want
    let known := row.status ≠ .absent; let held := if known then row.grant else 0
    let others := (((List.finRange 16).filter (· ≠ src)).map fun i => n.share.rows[i].grant).sum
    (dst.val < 16 ∨ dst.val = 31 → s.line.participation = .live ∨ s.line.participation = .listen →
      ∃ t, exec command s = .next t ∧
        t.share.rows[src].status = (if known then row.status else .present) ∧
        t.share.rows[src].silence = (if known then row.silence else .running) ∧
        t.share.rows[src].want = min 25 want.toNat ∧
        (requested.toNat ≤ held → t.share.rows[src].grant = requested.toNat) ∧
        (held < requested.toNat → s.line.participation = .live →
          t.share.rows[src].grant = min requested.toNat (16 + 8 * s.straps.budget.val - others)) ∧
        (s.line.participation = .listen → (held < requested.toNat → t.share.rows[src].grant = held) ∧
          (t.share.rows[src].settled = true ↔ requested.toNat ≤ held)) ∧
        (∀ i : Station, i ≠ src → t.share.rows[i] = n.share.rows[i]) ∧
        t = { n with share := { n.share with rows := t.share.rows } }) ∧
    ((16 ≤ dst.val ∧ dst.val ≠ 31) ∨ (s.line.participation ≠ .live ∧ s.line.participation ≠ .listen) →
      exec command s = .next n)

/-- R53, R59, R60, R72, R155: a peer's PRESENCE: in LIVE it lowers a grant and never raises one, a higher grant is a disagreement; in
LISTEN the carried grant is recorded, at most B. Another budget code is reported once for each sender, and the marks go on to the
mark board. -/
def Obligations.PeerPresencesSetTheRow : Prop :=
  ∀ (src : Station) (dst : Dest) (states codes grant want : Byte) (marks : Option (Byte × MarkSet)) (s : State),
    PeerFrame src s → let n := noted src s; let row := n.share.rows[src]
    let command := Instr.presence src dst states codes grant want marks
    let known := row.status ≠ .absent; let held := if known then row.grant else 0
    let disagrees := s.line.participation = .live ∧ held < grant.toNat
    let mismatch := codes.toNat / 4 % 8 ≠ s.straps.budget.val ∧ s.share.mismatch.getLsbD src.val = false
    (dst.val < 16 ∨ dst.val = 31 → s.line.participation = .live ∨ s.line.participation = .listen →
      ∃ t, exec command s = .next t ∧
        t.share.rows[src].status = (if known then row.status else .present) ∧
        t.share.rows[src].silence = (if known then row.silence else .running) ∧
        t.share.rows[src].want = min 25 want.toNat ∧
        (s.line.participation = .live → t.share.rows[src].grant = min held grant.toNat) ∧
        (s.line.participation = .listen →
          t.share.rows[src].grant = min (16 + 8 * s.straps.budget.val) grant.toNat ∧
          t.share.rows[src].settled = true) ∧
        (∀ i : Station, i ≠ src → t.share.rows[i] = n.share.rows[i]) ∧
        (disagrees →
          t.journal = s.journal.add (.station s.engine.tag s.engine.clock (.disagree src)) ∧
          t.share.pendingEvict = n.share.pendingEvict ||| (1#16 <<< src.val) ∧
          t.tx.evict = some t.share.pendingEvict) ∧
        (¬disagrees → t.journal = s.journal ∧ t.share.pendingEvict = n.share.pendingEvict ∧ t.tx = n.tx) ∧
        (mismatch → t.share.mismatch = s.share.mismatch ||| (1#16 <<< src.val) ∧
          t.inbox.reports = s.inbox.reports ++ [.budgetMismatch]) ∧
        (¬mismatch → t.share.mismatch = s.share.mismatch ∧ t.inbox.reports = s.inbox.reports) ∧
        t.inbox.marks = s.inbox.marks ++ (match marks with
          | none => []
          | some (tag, set) => [⟨src, tag, set⟩]) ∧
        t = { n with
          share := { n.share with
            rows := t.share.rows, pendingEvict := t.share.pendingEvict, mismatch := t.share.mismatch }
          tx := { n.tx with evict := t.tx.evict }, line := { n.line with onLine := t.line.onLine }
          journal := t.journal, inbox := { n.inbox with marks := t.inbox.marks, reports := t.inbox.reports } }) ∧
    ((16 ≤ dst.val ∧ dst.val ≠ 31) ∨ (s.line.participation ≠ .live ∧ s.line.participation ≠ .listen) →
      exec command s = .next n)

/-- R57, R58, R61, R62, R74: an EVICT empties the rows it names but for the own row; one that names the own station is its own
eviction. A peer's silence calls for its eviction in LIVE and unsettles its row in LISTEN. -/
def Obligations.EvictionsAndSilenceEmptyRows : Prop :=
  (∀ (src : Station) (dst : Dest) (mask : StationSet) (s : State), PeerFrame src s →
    let n := noted src s; let p := s.line.participation; let own := mask.getLsbD s.own.val = true
    (dst.val < 16 ∨ dst.val = 31 → p = .live ∨ p = .listen → ∃ t, exec (.evict src dst mask) s = .next t ∧
      (∀ i : Station, i ≠ s.own →
        t.share.rows[i] = if mask.getLsbD i.val = true then Row.absent else n.share.rows[i]) ∧
      t.ownRow = (if own ∧ p = .live then { n.ownRow with grant := 0 } else n.ownRow) ∧
      (p = .live → t.share.pendingEvict = n.share.pendingEvict &&& ~~~mask ∧
        t.tx.evict = (if t.share.pendingEvict = 0 then none else some t.share.pendingEvict)) ∧
      (p = .listen → t.share.pendingEvict = n.share.pendingEvict ∧ t.tx = n.tx) ∧
      (own → t.journal = s.journal.add (.station s.engine.tag s.engine.clock (.evicted src))) ∧
      (¬own → t.journal = s.journal) ∧
      (own → p = .live → t.tx.claim = none ∧ t.share.usable = 0 ∧
        t.inbox.reports = s.inbox.reports ++ [.lostPower] ∧
        t.inbox.usables = s.inbox.usables ++ (if s.share.usable = 0 then [] else [0])) ∧
      (¬own ∨ p = .listen → t.tx.claim = n.tx.claim ∧ t.share.usable = s.share.usable ∧ t.inbox = s.inbox) ∧
      t = { n with
        share := { n.share with
          rows := t.share.rows, pendingEvict := t.share.pendingEvict, usable := t.share.usable }
        tx := { n.tx with evict := t.tx.evict, claim := t.tx.claim }
        line := { n.line with onLine := t.line.onLine }, journal := t.journal
        inbox := { n.inbox with usables := t.inbox.usables, reports := t.inbox.reports } }) ∧
    ((16 ≤ dst.val ∧ dst.val ≠ 31) ∨ (p ≠ .live ∧ p ≠ .listen) → exec (.evict src dst mask) s = .next n)) ∧
  ∀ (peer : Station) (s : State), s.resetN = true → let row := s.share.rows[peer]
    (row.status = .present → row.silence = .running →
      (s.line.participation = .live → ∃ t, exec (.silenceTimer peer) s = .next t ∧
        t.share.rows = s.share.rows.set peer.val { row with silence := .expired } ∧
        t.share.pendingEvict = s.share.pendingEvict ||| (1#16 <<< peer.val) ∧
        t.tx.evict = some t.share.pendingEvict ∧
        t = { s with
          share := { s.share with rows := t.share.rows, pendingEvict := t.share.pendingEvict }
          tx := { s.tx with evict := t.tx.evict }, line := { s.line with onLine := t.line.onLine } }) ∧
      (s.line.participation = .listen → exec (.silenceTimer peer) s = .next { s with share := { s.share with
        rows := s.share.rows.set peer.val { row with silence := .expired, settled := false } } })) ∧
    (row.status ≠ .present ∨ row.silence ≠ .running ∨
        (s.line.participation ≠ .live ∧ s.line.participation ≠ .listen) →
      exec (.silenceTimer peer) s = .next s)

/-- R153 to R155, R157: the marks of a MARK, and of a PRESENCE, join the sender's row under the three conditions; a raise adds the own
mark and queues a MARK with the whole set. The participation is judged when the PRESENCE is taken, tag and mask when the board handles
its marks (log entry 28). -/
def Obligations.MarksJoinTheBoard : Prop :=
  (∀ (src : Station) (dst : Dest) (tag : Byte) (marks : MarkSet) (s : State), PeerFrame src s →
    let n := noted src s
    let accepted := (s.line.participation = .live ∨ s.line.participation = .listen) ∧
      (dst.val < 16 ∨ dst.val = 31) ∧ s.engine.tag ≠ 0 ∧ tag = s.engine.tag ∧ s.engine.mask.getLsbD src.val = true
    (accepted → exec (.mark src dst tag marks) s = .next { n with board := { s.board with
      rows := s.board.rows.set src.val (s.board.rows[src] ||| marks) } }) ∧
    (¬accepted → exec (.mark src dst tag marks) s = .next n)) ∧
  (∀ (s : State) (m : PresenceMarks) (rest : List PresenceMarks), s.resetN = true → s.inbox.marks = m :: rest →
    let accepted := m.src ≠ s.own ∧ s.engine.tag ≠ 0 ∧ m.tag = s.engine.tag ∧ s.engine.mask.getLsbD m.src.val = true
    (accepted → exec .presenceMarks s = .next { s with
      inbox := { s.inbox with marks := rest }
      board := { s.board with rows := s.board.rows.set m.src.val (s.board.rows[m.src] ||| m.marks) } }) ∧
    (¬accepted → exec .presenceMarks s = .next { s with inbox := { s.inbox with marks := rest } })) ∧
  ∀ (m : Fin 32) (s : State), let t := raiseMark m s
    t.board.own = s.board.own ||| (1#32 <<< m.val) ∧
    t.board.rows = s.board.rows.set s.own.val t.board.own ∧
    t.tx.mark = some ⟨s.engine.tag, t.board.own⟩ ∧
    t = { s with
      board := t.board, tx := { s.tx with mark := t.tx.mark }, line := { s.line with onLine := t.line.onLine } }

/-- R52, R64, R66 to R69: the target of a claim review, the CLAIM it leaves in the slot and the usable units that follow, at the review
timer's expiry and at a want change in LIVE; outside LIVE a want change only sets the own row's want. -/
def Obligations.ClaimReviewsFollowTheFairShare : Prop :=
  let reviewed := fun (s t : State) =>
    let rows := s.share.rows; let own := s.ownRow
    let n := (List.finRange 16).countP fun i => rows[i].status ≠ .absent && 0 < rows[i].want
    let fair := (16 + 8 * s.straps.budget.val) / n
    let starved := 2 ≤ n ∧ ∃ i : Station, i ≠ s.own ∧ rows[i].status = .present ∧ rows[i].grant < rows[i].want ∧
      rows[i].grant < fair
    ∃ target : Nat, target = (if starved then min own.want fair else own.want) ∧
      t.tx.claim = (if target = own.grant then none else some ⟨target, own.want⟩) ∧
      t.share.usable = min target own.grant ∧
      t.inbox.usables = s.inbox.usables ++ (if t.share.usable = s.share.usable then [] else [t.share.usable]) ∧
      t = { s with
        share := { s.share with usable := t.share.usable }, tx := { s.tx with claim := t.tx.claim }
        line := { s.line with onLine := t.line.onLine }, inbox := { s.inbox with usables := t.inbox.usables } }
  (∀ s : State, s.resetN = true →
    (s.line.participation = .live → s.share.reviewTimer = .running →
      ∃ t, exec .claimReviewTimer s = .next t ∧ reviewed s t) ∧
    (s.line.participation ≠ .live → exec .claimReviewTimer s = .next s)) ∧
  ∀ (s : State) (want : Nat) (rest : List Nat), s.resetN = true → s.inbox.wants = want :: rest →
    let u := { s with
      share := { s.share with rows := s.share.rows.set s.own.val { s.ownRow with want := want } }
      inbox := { s.inbox with wants := rest } }
    (s.line.participation = .live → ∃ t, exec .wantChange s = .next t ∧ reviewed u t) ∧
    (s.line.participation ≠ .live → exec .wantChange s = .next u)

/-! ## Line controller -/

/-- R134, R146, R167 to R171, Table 11-5: the line idle in LIVE with no own frame on it, the filled slot of lowest kind is offered
with its content fixed, unless a frame with a lower arbitration field begins in the same cell; outside LIVE nothing is. A frame that a
RESTART abandoned is over when the line is idle (R166). A frame has 37 cells and 8 for each payload byte, its verdict cells short; a
PRESENCE carries the state, byte by byte, its net weight that of the latest count against the reference as it stands (log entry 21). The
sender reads its cells back up to the last CRC bit: with every cell as sent, the verdict takes or drops the frame; else the first cell
unlike decides, a 0 for a 1 in the arbitration field a lost arbitration, anything else (another bit, no valid pulse, no pulse) an echo
fault, and the station receives what the line carries. -/
def Obligations.OffersTakeTheLowestKind : Prop :=
  let b := fun n : Nat => BitVec.ofNat 8 n
  let signed := fun z : Int => [(BitVec.ofInt 16 z).extractLsb' 8 8, (BitVec.ofInt 16 z).extractLsb' 0 8]
  let bit := fun (n : Nat) (c : Bool) => if c = true then 2 ^ n else 0
  (∀ s : State, let e := s.engine
    presencePayload s = [
      b (64 * (match s.line.participation with | .listen => 0 | .live => 1 | .lineFault => 2 | .barred => 3) +
        8 * (match e.state with | .unready => 0 | .idle => 1 | .run => 2 | .hold => 3 | .ended => 4 | .fault => 5) +
        match e.slot with | none => 7 | some k => k.val),
      b (4 * s.straps.budget.val + s.straps.rating.val), b s.ownRow.grant, b s.ownRow.want, e.tag,
      s.board.own.extractLsb' 24 8, s.board.own.extractLsb' 16 8, s.board.own.extractLsb' 8 8,
      s.board.own.extractLsb' 0 8, b (match e.slot with | none => 0 | some _ => e.index),
      b (bit 0 e.causes.pause + bit 1 e.causes.lid + bit 2 e.causes.bowl + bit 3 e.causes.power +
        bit 4 e.causes.stall + bit 5 e.causes.probe + bit 6 e.causes.scale),
      b (match e.fault with
        | none => 0 | some .overtemp => 1 | some .sensor => 2 | some .lidSense => 3 | some .stepTimeout => 4
        | some .config => 5 | some .barred => 6),
      e.prompt] ++
      signed (max (-400) (min 32767 ((s.chan.latest.base : Int) - 400))) ++
      signed (match s.scale.latestCount with
        | none => 0
        | some count => if s.handler.cpk = 0 then 0 else
          max (-32768) (min 32767 ((((count : Int) - s.scale.reference) * 1000).tdiv s.handler.cpk)))) ∧
  (∀ f : WireFrame, f.cells.length = 37 + 8 * f.payload.length ∧ f.cells.head? = some false ∧
    f.cells.drop (35 + 8 * f.payload.length) = [true, true]) ∧
  (∀ (f : WireFrame) (cells : List (Option Bool)),
    let read := fun i : Nat => (cells[i]?).join
    let last := 34 + 8 * f.payload.length
    let sound := fun n : Nat => ∀ i < n, read i = f.cells[i]?
    (sound (last + 1) → hearSent f cells = [.offer none,
      if read (last + 1) = some false ∧ read (last + 2) ≠ some false then .ownFrameTaken else .ownFrameDropped]) ∧
    ∀ i ≤ last, sound i → read i ≠ f.cells[i]? →
      (1 ≤ i ∧ i ≤ 8 ∧ read i = some false → ∃ r : Byte, r.toNat < 16 * f.kind.val + f.src.val ∧
        hearSent f cells = .offer (some r) :: (receive cells).toList) ∧
      (¬(1 ≤ i ∧ i ≤ 8 ∧ read i = some false) →
        hearSent f cells = .offer none :: .echoFault :: (receive cells).toList)) ∧
  ∀ (rival : Option Byte) (s : State), s.resetN = true →
    let lowest := s.tx.evict.map OwnFrame.evict <|> s.tx.claim.map OwnFrame.claim <|> s.tx.mark.map OwnFrame.mark <|>
      s.tx.reply.map OwnFrame.reply <|> if s.tx.presence = true then some (.presence (presencePayload s)) else none
    let free := s.line.participation = .live ∧ s.line.onLine = none ∧ s.line.finishing = none
    let idle := { s with line := { s.line with abandoned := false } }
    (¬free ∨ lowest = none → exec (.offer rival) s = .next idle ∧ ∀ pulses, hearOffer s pulses = []) ∧
    (free → ∀ f, lowest = some f →
      (∀ pulses, hearOffer s pulses = hearSent ⟨f.kind, s.own, f.dst, f.payload⟩ (cellsOf pulses)) ∧
      ((∃ r, rival = some r ∧ r.toNat < 16 * f.kind.val + s.own.val) → exec (.offer rival) s = .next idle) ∧
      ((∀ r, rival = some r → 16 * f.kind.val + s.own.val ≤ r.toNat) → ∃ t, exec (.offer rival) s = .next t ∧
        hlTxCells t = WireFrame.cells ⟨f.kind, s.own, f.dst, f.payload⟩ ∧
        t = { s with line := { s.line with onLine := some ⟨f, false, false⟩, abandoned := false } }))

/-- R56, R57, R62, R64, R65, R70, R158, R171, R174, R175, R185: the end of an own frame. Taken, the own-silence timer restarts and the
spoil count is 0; its owner acts on each verdict. A slot that holds what was sent is emptied; one replaced or emptied since the offer
began (`changed`) keeps what it holds, be it an equal frame or a newer MARK (R158, log entry 18). An own PRESENCE taken changes nothing at
the share unit (log entry 26). A frame of a station that has left LIVE is reported dropped. R166: an own frame that a RESTART found on the
line stays on it to its end and is reported to no block. No RESTART is pending. -/
def Obligations.OwnFramesEndTakenOrDropped : Prop :=
  ∀ (s : State) (f : OwnFrame) (changed : Bool), s.resetN = true → s.handler.restartPending = false →
    let claim := if changed = true then s.tx.claim else none
    let usable := fun grant : Nat => match claim with
      | none => grant
      | some c => min c.requested grant
    let mark := if changed = true then s.tx.mark else none
    let reply := if changed = true then s.tx.reply else none
    (s.line.onLine = some ⟨f, changed, false⟩ → s.line.participation = .live →
      (∃ t, exec .ownFrameTaken s = .next t ∧
        t.line.onLine = none ∧ t.line.ownSilence = .running ∧ t.line.spoil = 0 ∧
        (∀ mask, f = .evict mask → t.share.pendingEvict = s.share.pendingEvict &&& ~~~mask ∧
          t.tx.evict = (if t.share.pendingEvict = 0 then none else some t.share.pendingEvict) ∧
          ∀ i : Station, i ≠ s.own →
            t.share.rows[i] = if mask.getLsbD i.val = true then Row.absent else s.share.rows[i]) ∧
        (∀ c, f = .claim c →
          let others := (((List.finRange 16).filter (· ≠ s.own)).map fun i => s.share.rows[i].grant).sum
          t.ownRow.grant = (if c.requested ≤ s.ownRow.grant then c.requested
            else min c.requested (16 + 8 * s.straps.budget.val - others)) ∧
          t.ownRow = { s.ownRow with grant := t.ownRow.grant } ∧
          t.tx = { s.tx with claim := claim } ∧ t.share.usable = usable t.ownRow.grant ∧
          ∀ i : Station, i ≠ s.own → t.share.rows[i] = s.share.rows[i]) ∧
        (∀ m, f = .mark m → t = { s with
          line := { s.line with onLine := none, ownSilence := .running, spoil := 0 }
          tx := { s.tx with mark := mark } }) ∧
        (∀ r, f = .reply r → t = { s with
          line := { s.line with onLine := none, ownSilence := .running, spoil := 0 }
          tx := { s.tx with reply := reply } }) ∧
        (∀ p, f = .presence p → t = { s with
          line := { s.line with onLine := none, ownSilence := .running, spoil := 0, presence := .running }
          tx := { s.tx with presence := false } })) ∧
      ∀ c ∈ [Instr.ownFrameDropped, .echoFault], ∃ t, exec c s = .next t ∧
        (∀ mask, f = .evict mask → t = { s with
          line := { s.line with onLine := none }
          tx := { s.tx with evict := if s.share.pendingEvict = 0 then none else some s.share.pendingEvict } }) ∧
        (∀ c, f = .claim c → t.share.usable = usable s.ownRow.grant ∧ t = { s with
          line := { s.line with onLine := none }, tx := { s.tx with claim := claim }
          share := { s.share with usable := t.share.usable }, inbox := { s.inbox with usables := t.inbox.usables } }) ∧
        (∀ m, f = .mark m → t = { s with
          line := { s.line with onLine := none }, tx := { s.tx with mark := mark } }) ∧
        (∀ r, f = .reply r → t = { s with
          line := { s.line with onLine := none }, tx := { s.tx with reply := reply } }) ∧
        (∀ p, f = .presence p → t = { s with line := { s.line with onLine := none } })) ∧
    (∀ r left, f = .reply r → s.line.onLine = some ⟨f, true, left⟩ →
      exec .ownFrameDropped s = .next { s with line := { s.line with onLine := none } }) ∧
    (s.line.onLine = some ⟨f, changed, true⟩ → exec .ownFrameTaken s = exec .ownFrameDropped s) ∧
    (s.line.onLine = none → s.line.finishing = some f →
      hlTxCells s = WireFrame.cells ⟨f.kind, s.own, f.dst, f.payload⟩ ∧
      ∀ c ∈ [Instr.ownFrameTaken, .ownFrameDropped, .echoFault],
        exec c s = .next { s with line := { s.line with finishing := none } })

/-- R170, R171, R173, R175 to R177: a received frame found bad, or good and not taken, and the ways out of LIVE for own silence, for a
frame that could not be checked and for the eighth bad frame: LEFT_LIVE, the slots but for MARK emptied, no grant, no usable units,
lost power reported. The own-silence timer then stands stopped, and the spoil count at 8 in LINE FAULT (log entry 25). The row LINE_FAULT is
the bad frame that brings the count to 8 (log entry 3). No RESTART is pending, and none abandoned the frame. -/
def Obligations.BadFramesAndSilenceEndLive : Prop :=
  let leaves := fun (reason : LeftReason) (s t : State) =>
    t.tx = { TxSlots.reset with mark := s.tx.mark } ∧ t.ownRow = { s.ownRow with grant := 0 } ∧
    t.share.pendingEvict = 0 ∧ t.share.reviewTimer = .stopped ∧ t.share.usable = 0 ∧
    t.share.mismatch = s.share.mismatch ∧
    t.journal = s.journal.add (.station s.engine.tag s.engine.clock (.leftLive reason)) ∧
    t.inbox.reports = s.inbox.reports ++ [.lostPower] ∧
    t.line.presence = .stopped ∧ t.line.ownSilence = .stopped ∧
    (∀ f, s.line.onLine = some f → t.line.onLine.map LineFrame.left = some true) ∧
    t = { s with
      line := t.line, tx := t.tx, share := t.share, journal := t.journal
      inbox := { s.inbox with usables := t.inbox.usables, reports := t.inbox.reports } }
  let listens := fun (s t : State) =>
    t.line.participation = .listen ∧ t.line.window = .running ∧ t.line.spoil = 0 ∧
    ∀ i : Station, i ≠ s.own → t.share.rows[i] = Row.absent
  ∀ s : State, s.resetN = true → s.handler.restartPending = false → s.line.abandoned = false →
    s.share.rows[s.own].status = .self →
    s.share.rows[s.own].settled = true → s.share.rows[s.own].silence = .stopped →
    (s.line.participation = .live →
      (s.line.ownSilence = .running → ∀ receiving, ∃ t, exec (.ownSilence receiving) s = .next t ∧
        leaves .ownSilence s t ∧ listens s t ∧ t.line.abandoned = false) ∧
      (s.line.spoil < 7 →
        (∀ taken spoil, exec (.frameFoundBad (.read taken spoil)) s = .next
          { s with line := { s.line with verdict := .spoil, spoil := s.line.spoil + 1 } }) ∧
        ∃ t, exec (.frameFoundBad .unplaced) s = .next t ∧ leaves .unchecked s t ∧ listens s t) ∧
      (s.line.spoil = 7 → ∀ verdict, ∀ c ∈ [Instr.frameFoundBad verdict, .lineFault verdict],
        ∃ t, exec c s = .next t ∧ leaves .lineFault s t ∧ t.line.participation = .lineFault ∧
          t.line.verdict = (if verdict = .unplaced then .nothing else .spoil) ∧
          t.line.quiet = .running ∧ t.line.spoil = 8 ∧
          ∀ i : Station, i ≠ s.own → t.share.rows[i] = s.share.rows[i]) ∧
      exec .frameSpoiled s = .next { s with line := { s.line with verdict := .taken, spoil := 0 } }) ∧
    (s.line.participation ≠ .live → exec .frameSpoiled s = .next { s with line := { s.line with verdict := .nothing } }) ∧
    (s.line.participation = .lineFault ∨ s.line.participation = .barred → ∀ verdict,
      exec (.frameFoundBad verdict) s = .next { s with line := { s.line with verdict := .nothing } }) ∧
    (s.line.participation = .listen → ∀ taken spoil,
      ((taken = true ∧ spoil = false) → ∀ v ∈ [BadVerdict.unplaced, .read taken spoil],
        ∃ t, exec (.frameFoundBad v) s = .next t ∧ t.line.window = .running ∧
          (∀ i : Station, i ≠ s.own → t.share.rows[i] = Row.absent) ∧ t.ownRow = { s.ownRow with grant := 0 } ∧
          t = { s with
            line := { s.line with window := .running, verdict := .nothing }
            share := { s.share with rows := t.share.rows } }) ∧
      (¬(taken = true ∧ spoil = false) → exec (.frameFoundBad (.read taken spoil)) s = .next
        { s with line := { s.line with verdict := .nothing } }))

/-- R71, R75, R76, R174, R176, R177: LIVE entry at the window's end or at a later ready table, the window's end with a table not ready,
the presence timer, and the quiet timer's return to LISTEN. TABLE_READY tests the table as it stands when the command comes (log entry
16). -/
def Obligations.WindowEndsInLiveWithAReadyTable : Prop :=
  ∀ s : State, s.resetN = true →
    let ready := (∀ i : Station, s.share.rows[i].status = .present → s.share.rows[i].settled = true) ∧
      ((List.finRange 16).map fun i => s.share.rows[i].grant).sum ≤ 16 + 8 * s.straps.budget.val
    let entered := fun t : State =>
      t.line = { s.line with
        participation := .live, spoil := 0, window := .stopped, ownSilence := .running, presence := .expired,
        onLine := t.line.onLine } ∧
      t.tx.presence = true ∧ t.share.reviewTimer = .running ∧ t.share.rows = s.share.rows ∧
      t.journal = s.journal.add (.station s.engine.tag s.engine.clock .joined) ∧
      (let target := reviewTarget s.budget s.share.rows s.own
       t.tx.claim = if target = s.ownRow.grant then none else some ⟨target, s.ownRow.want⟩) ∧
      t = { s with
        line := t.line, tx := { s.tx with presence := true, claim := t.tx.claim }, journal := t.journal
        share := { s.share with reviewTimer := .running, usable := t.share.usable }
        inbox := { s.inbox with usables := t.inbox.usables } }
    (s.line.participation = .listen → s.line.window = .running →
      (ready → ∃ t, exec .listenWindow s = .next t ∧ entered t) ∧
      (¬ready → exec .listenWindow s = .next { s with line := { s.line with window := .expired } })) ∧
    (s.line.participation = .listen → s.line.window = .expired →
      (ready → ∃ t, exec .tableReady s = .next t ∧ entered t) ∧ (¬ready → exec .tableReady s = .next s)) ∧
    (s.line.participation = .live → s.line.presence = .running → exec .presenceTimer s = .next
      { s with line := { s.line with presence := .expired }, tx := { s.tx with presence := true } }) ∧
    (s.line.participation = .lineFault → s.line.quiet = .running → ∃ t, exec .quietTimer s = .next t ∧
      t.line = { s.line with
        participation := .listen, spoil := 0, window := .running, ownSilence := .stopped, presence := .stopped,
        quiet := .stopped } ∧
      (∀ i : Station, t.share.rows[i] =
        if i = s.own then ⟨.self, 0, s.ownRow.want, true, .stopped⟩ else Row.absent) ∧
      t = { s with line := t.line, share := { s.share with rows := t.share.rows } })

/-! ## Promises every step keeps -/

/-- The machine right after reset keeps every promise. Its straps and input levels are the model's choice, log entry 1. -/
def Obligations.ResetKeepsEveryPromise : Prop := Safe State.reset

/-- R55: while LIVE the grants of all rows sum to no more than B, before and after every step. -/
def Obligations.GrantsStayWithinTheBudget : Prop :=
  ∀ s t : State, WithinBudget s → step s = .next t → WithinBudget t

/-- R15, R64, R79, R87, R106, R107, R118, R120, R121, R153, R160 to R163, R175, R51, R62: every step keeps each of the other promises
of Safety.lean, each on its own. -/
def Obligations.EveryStepKeepsEachPromise : Prop :=
  ∀ s t : State, step s = .next t →
    (HoldKept s → HoldKept t) ∧ (SlotLent s → SlotLent t) ∧ (JournalBounded s → JournalBounded t) ∧
    (OwnRowOwnSet s → OwnRowOwnSet t) ∧ (HeaterBounded s → HeaterBounded t) ∧ (LockedWhenFast s → LockedWhenFast t) ∧
    (MaskSound s → MaskSound t) ∧ (GrantOnlyLive s → GrantOnlyLive t)

/-- R165, R167, R170, R171, R179, Tables 11-1 to 11-8: the pulses of the frame of a well-formed frame command, its verdict cells taken, are
heard as that command and nothing else, whatever its operands and whenever it begins; so are its cells. -/
def Obligations.FramesAreReceivedAsSent : Prop :=
  ∀ (c : Instr) (f : WireFrame), c.wellFormed = true → wireOf c = some f →
    receive ((f.onLine true false).map some) = some c ∧
    ∀ time : Nat, hear (pulsesOf time (f.onLine true false)) = [c]
end

