-- ==== Sys2Proof/Laws/Frames.lean ====
section
/-! SUPPORT. Laws/Frames.lean: for each shared operation, the fields of the state it leaves unchanged, as one simp lemma. -/

namespace Sys2Proof.Machine

/-- `report` changes only: inbox. -/
@[simp] theorem report_frame (r : Report) (s : State) :
    (report r s).resetN = s.resetN ∧ (report r s).straps = s.straps ∧ (report r s).pins = s.pins ∧
    (report r s).chan = s.chan ∧ (report r s).heater = s.heater ∧ (report r s).stirrer = s.stirrer ∧
    (report r s).scale = s.scale ∧ (report r s).engine = s.engine ∧ (report r s).slots = s.slots ∧
    (report r s).share = s.share ∧ (report r s).line = s.line ∧ (report r s).tx = s.tx ∧
    (report r s).handler = s.handler ∧ (report r s).board = s.board ∧ (report r s).journal = s.journal ∧
    (report r s).freeCount = s.freeCount ∧ (report r s).pending = s.pending := by
  unfold report; simp

/-- `reportIf` changes only: inbox. -/
@[simp] theorem reportIf_frame (c : Bool) (r : Report) (s : State) :
    (reportIf c r s).resetN = s.resetN ∧ (reportIf c r s).straps = s.straps ∧ (reportIf c r s).pins = s.pins ∧
    (reportIf c r s).chan = s.chan ∧ (reportIf c r s).heater = s.heater ∧ (reportIf c r s).stirrer = s.stirrer ∧
    (reportIf c r s).scale = s.scale ∧ (reportIf c r s).engine = s.engine ∧ (reportIf c r s).slots = s.slots ∧
    (reportIf c r s).share = s.share ∧ (reportIf c r s).line = s.line ∧ (reportIf c r s).tx = s.tx ∧
    (reportIf c r s).handler = s.handler ∧ (reportIf c r s).board = s.board ∧
    (reportIf c r s).journal = s.journal ∧ (reportIf c r s).freeCount = s.freeCount ∧
    (reportIf c r s).pending = s.pending := by
  unfold reportIf; (repeat' split) <;> simp

/-- `noteEvent` changes only: journal. -/
@[simp] theorem noteEvent_frame (e : StationEvent) (s : State) :
    (noteEvent e s).resetN = s.resetN ∧ (noteEvent e s).straps = s.straps ∧ (noteEvent e s).pins = s.pins ∧
    (noteEvent e s).chan = s.chan ∧ (noteEvent e s).heater = s.heater ∧ (noteEvent e s).stirrer = s.stirrer ∧
    (noteEvent e s).scale = s.scale ∧ (noteEvent e s).engine = s.engine ∧ (noteEvent e s).slots = s.slots ∧
    (noteEvent e s).share = s.share ∧ (noteEvent e s).line = s.line ∧ (noteEvent e s).tx = s.tx ∧
    (noteEvent e s).handler = s.handler ∧ (noteEvent e s).board = s.board ∧ (noteEvent e s).inbox = s.inbox ∧
    (noteEvent e s).freeCount = s.freeCount ∧ (noteEvent e s).pending = s.pending := by
  unfold noteEvent; simp

/-- `mapOpen` changes only: journal. -/
@[simp] theorem mapOpen_frame (f : StepEntry → StepEntry) (s : State) :
    (mapOpen f s).resetN = s.resetN ∧ (mapOpen f s).straps = s.straps ∧ (mapOpen f s).pins = s.pins ∧
    (mapOpen f s).chan = s.chan ∧ (mapOpen f s).heater = s.heater ∧ (mapOpen f s).stirrer = s.stirrer ∧
    (mapOpen f s).scale = s.scale ∧ (mapOpen f s).engine = s.engine ∧ (mapOpen f s).slots = s.slots ∧
    (mapOpen f s).share = s.share ∧ (mapOpen f s).line = s.line ∧ (mapOpen f s).tx = s.tx ∧
    (mapOpen f s).handler = s.handler ∧ (mapOpen f s).board = s.board ∧ (mapOpen f s).inbox = s.inbox ∧
    (mapOpen f s).freeCount = s.freeCount ∧ (mapOpen f s).pending = s.pending := by
  unfold mapOpen; simp

/-- `notePeak` changes only: journal. -/
@[simp] theorem notePeak_frame (n : Nat) (s : State) :
    (notePeak n s).resetN = s.resetN ∧ (notePeak n s).straps = s.straps ∧ (notePeak n s).pins = s.pins ∧
    (notePeak n s).chan = s.chan ∧ (notePeak n s).heater = s.heater ∧ (notePeak n s).stirrer = s.stirrer ∧
    (notePeak n s).scale = s.scale ∧ (notePeak n s).engine = s.engine ∧ (notePeak n s).slots = s.slots ∧
    (notePeak n s).share = s.share ∧ (notePeak n s).line = s.line ∧ (notePeak n s).tx = s.tx ∧
    (notePeak n s).handler = s.handler ∧ (notePeak n s).board = s.board ∧ (notePeak n s).inbox = s.inbox ∧
    (notePeak n s).freeCount = s.freeCount ∧ (notePeak n s).pending = s.pending := by
  unfold notePeak; simp

/-- `openEntry` changes only: journal. -/
@[simp] theorem openEntry_frame (s : State) :
    (openEntry s).resetN = s.resetN ∧ (openEntry s).straps = s.straps ∧ (openEntry s).pins = s.pins ∧
    (openEntry s).chan = s.chan ∧ (openEntry s).heater = s.heater ∧ (openEntry s).stirrer = s.stirrer ∧
    (openEntry s).scale = s.scale ∧ (openEntry s).engine = s.engine ∧ (openEntry s).slots = s.slots ∧
    (openEntry s).share = s.share ∧ (openEntry s).line = s.line ∧ (openEntry s).tx = s.tx ∧
    (openEntry s).handler = s.handler ∧ (openEntry s).board = s.board ∧ (openEntry s).inbox = s.inbox ∧
    (openEntry s).freeCount = s.freeCount ∧ (openEntry s).pending = s.pending := by
  unfold openEntry; simp

/-- `closeEntry` changes only: journal. -/
@[simp] theorem closeEntry_frame (c : EndCause) (s : State) :
    (closeEntry c s).resetN = s.resetN ∧ (closeEntry c s).straps = s.straps ∧ (closeEntry c s).pins = s.pins ∧
    (closeEntry c s).chan = s.chan ∧ (closeEntry c s).heater = s.heater ∧ (closeEntry c s).stirrer = s.stirrer ∧
    (closeEntry c s).scale = s.scale ∧ (closeEntry c s).engine = s.engine ∧ (closeEntry c s).slots = s.slots ∧
    (closeEntry c s).share = s.share ∧ (closeEntry c s).line = s.line ∧ (closeEntry c s).tx = s.tx ∧
    (closeEntry c s).handler = s.handler ∧ (closeEntry c s).board = s.board ∧ (closeEntry c s).inbox = s.inbox ∧
    (closeEntry c s).freeCount = s.freeCount ∧ (closeEntry c s).pending = s.pending := by
  unfold closeEntry; simp

/-- `countHold` changes only: journal. -/
@[simp] theorem countHold_frame (s : State) :
    (countHold s).resetN = s.resetN ∧ (countHold s).straps = s.straps ∧ (countHold s).pins = s.pins ∧
    (countHold s).chan = s.chan ∧ (countHold s).heater = s.heater ∧ (countHold s).stirrer = s.stirrer ∧
    (countHold s).scale = s.scale ∧ (countHold s).engine = s.engine ∧ (countHold s).slots = s.slots ∧
    (countHold s).share = s.share ∧ (countHold s).line = s.line ∧ (countHold s).tx = s.tx ∧
    (countHold s).handler = s.handler ∧ (countHold s).board = s.board ∧ (countHold s).inbox = s.inbox ∧
    (countHold s).freeCount = s.freeCount ∧ (countHold s).pending = s.pending := by
  unfold countHold; simp

/-- `noteAdded` changes only: journal. -/
@[simp] theorem noteAdded_frame (s : State) :
    (noteAdded s).resetN = s.resetN ∧ (noteAdded s).straps = s.straps ∧ (noteAdded s).pins = s.pins ∧
    (noteAdded s).chan = s.chan ∧ (noteAdded s).heater = s.heater ∧ (noteAdded s).stirrer = s.stirrer ∧
    (noteAdded s).scale = s.scale ∧ (noteAdded s).engine = s.engine ∧ (noteAdded s).slots = s.slots ∧
    (noteAdded s).share = s.share ∧ (noteAdded s).line = s.line ∧ (noteAdded s).tx = s.tx ∧
    (noteAdded s).handler = s.handler ∧ (noteAdded s).board = s.board ∧ (noteAdded s).inbox = s.inbox ∧
    (noteAdded s).freeCount = s.freeCount ∧ (noteAdded s).pending = s.pending := by
  unfold noteAdded; simp

/-- `touchSent` changes only: line. -/
@[simp] theorem touchSent_frame (k : Fin 16) (s : State) :
    (touchSent k s).resetN = s.resetN ∧ (touchSent k s).straps = s.straps ∧ (touchSent k s).pins = s.pins ∧
    (touchSent k s).chan = s.chan ∧ (touchSent k s).heater = s.heater ∧ (touchSent k s).stirrer = s.stirrer ∧
    (touchSent k s).scale = s.scale ∧ (touchSent k s).engine = s.engine ∧ (touchSent k s).slots = s.slots ∧
    (touchSent k s).share = s.share ∧ (touchSent k s).tx = s.tx ∧ (touchSent k s).handler = s.handler ∧
    (touchSent k s).board = s.board ∧ (touchSent k s).journal = s.journal ∧ (touchSent k s).inbox = s.inbox ∧
    (touchSent k s).freeCount = s.freeCount ∧ (touchSent k s).pending = s.pending := by
  unfold touchSent; simp

/-- `setEvictSlot` changes only: line, tx. -/
@[simp] theorem setEvictSlot_frame (e : Option StationSet) (s : State) :
    (setEvictSlot e s).resetN = s.resetN ∧ (setEvictSlot e s).straps = s.straps ∧
    (setEvictSlot e s).pins = s.pins ∧ (setEvictSlot e s).chan = s.chan ∧ (setEvictSlot e s).heater = s.heater ∧
    (setEvictSlot e s).stirrer = s.stirrer ∧ (setEvictSlot e s).scale = s.scale ∧
    (setEvictSlot e s).engine = s.engine ∧ (setEvictSlot e s).slots = s.slots ∧
    (setEvictSlot e s).share = s.share ∧ (setEvictSlot e s).handler = s.handler ∧
    (setEvictSlot e s).board = s.board ∧ (setEvictSlot e s).journal = s.journal ∧
    (setEvictSlot e s).inbox = s.inbox ∧ (setEvictSlot e s).freeCount = s.freeCount ∧
    (setEvictSlot e s).pending = s.pending := by
  unfold setEvictSlot; simp

/-- `setClaimSlot` changes only: line, tx. -/
@[simp] theorem setClaimSlot_frame (c : Option ClaimFrame) (s : State) :
    (setClaimSlot c s).resetN = s.resetN ∧ (setClaimSlot c s).straps = s.straps ∧
    (setClaimSlot c s).pins = s.pins ∧ (setClaimSlot c s).chan = s.chan ∧ (setClaimSlot c s).heater = s.heater ∧
    (setClaimSlot c s).stirrer = s.stirrer ∧ (setClaimSlot c s).scale = s.scale ∧
    (setClaimSlot c s).engine = s.engine ∧ (setClaimSlot c s).slots = s.slots ∧
    (setClaimSlot c s).share = s.share ∧ (setClaimSlot c s).handler = s.handler ∧
    (setClaimSlot c s).board = s.board ∧ (setClaimSlot c s).journal = s.journal ∧
    (setClaimSlot c s).inbox = s.inbox ∧ (setClaimSlot c s).freeCount = s.freeCount ∧
    (setClaimSlot c s).pending = s.pending := by
  unfold setClaimSlot; simp

/-- `setMarkSlot` changes only: line, tx. -/
@[simp] theorem setMarkSlot_frame (m : Option MarkFrame) (s : State) :
    (setMarkSlot m s).resetN = s.resetN ∧ (setMarkSlot m s).straps = s.straps ∧
    (setMarkSlot m s).pins = s.pins ∧ (setMarkSlot m s).chan = s.chan ∧ (setMarkSlot m s).heater = s.heater ∧
    (setMarkSlot m s).stirrer = s.stirrer ∧ (setMarkSlot m s).scale = s.scale ∧
    (setMarkSlot m s).engine = s.engine ∧ (setMarkSlot m s).slots = s.slots ∧
    (setMarkSlot m s).share = s.share ∧ (setMarkSlot m s).handler = s.handler ∧
    (setMarkSlot m s).board = s.board ∧ (setMarkSlot m s).journal = s.journal ∧
    (setMarkSlot m s).inbox = s.inbox ∧ (setMarkSlot m s).freeCount = s.freeCount ∧
    (setMarkSlot m s).pending = s.pending := by
  unfold setMarkSlot; simp

/-- `setReplySlot` changes only: line, tx. -/
@[simp] theorem setReplySlot_frame (r : Option Reply) (s : State) :
    (setReplySlot r s).resetN = s.resetN ∧ (setReplySlot r s).straps = s.straps ∧
    (setReplySlot r s).pins = s.pins ∧ (setReplySlot r s).chan = s.chan ∧ (setReplySlot r s).heater = s.heater ∧
    (setReplySlot r s).stirrer = s.stirrer ∧ (setReplySlot r s).scale = s.scale ∧
    (setReplySlot r s).engine = s.engine ∧ (setReplySlot r s).slots = s.slots ∧
    (setReplySlot r s).share = s.share ∧ (setReplySlot r s).handler = s.handler ∧
    (setReplySlot r s).board = s.board ∧ (setReplySlot r s).journal = s.journal ∧
    (setReplySlot r s).inbox = s.inbox ∧ (setReplySlot r s).freeCount = s.freeCount ∧
    (setReplySlot r s).pending = s.pending := by
  unfold setReplySlot; simp

/-- `setRow` changes only: share. -/
@[simp] theorem setRow_frame (i : Station) (r : Row) (s : State) :
    (setRow i r s).resetN = s.resetN ∧ (setRow i r s).straps = s.straps ∧ (setRow i r s).pins = s.pins ∧
    (setRow i r s).chan = s.chan ∧ (setRow i r s).heater = s.heater ∧ (setRow i r s).stirrer = s.stirrer ∧
    (setRow i r s).scale = s.scale ∧ (setRow i r s).engine = s.engine ∧ (setRow i r s).slots = s.slots ∧
    (setRow i r s).line = s.line ∧ (setRow i r s).tx = s.tx ∧ (setRow i r s).handler = s.handler ∧
    (setRow i r s).board = s.board ∧ (setRow i r s).journal = s.journal ∧ (setRow i r s).inbox = s.inbox ∧
    (setRow i r s).freeCount = s.freeCount ∧ (setRow i r s).pending = s.pending := by
  unfold setRow; simp

/-- `setOwnGrant` changes only: share. -/
@[simp] theorem setOwnGrant_frame (g : Nat) (s : State) :
    (setOwnGrant g s).resetN = s.resetN ∧ (setOwnGrant g s).straps = s.straps ∧
    (setOwnGrant g s).pins = s.pins ∧ (setOwnGrant g s).chan = s.chan ∧ (setOwnGrant g s).heater = s.heater ∧
    (setOwnGrant g s).stirrer = s.stirrer ∧ (setOwnGrant g s).scale = s.scale ∧
    (setOwnGrant g s).engine = s.engine ∧ (setOwnGrant g s).slots = s.slots ∧ (setOwnGrant g s).line = s.line ∧
    (setOwnGrant g s).tx = s.tx ∧ (setOwnGrant g s).handler = s.handler ∧ (setOwnGrant g s).board = s.board ∧
    (setOwnGrant g s).journal = s.journal ∧ (setOwnGrant g s).inbox = s.inbox ∧
    (setOwnGrant g s).freeCount = s.freeCount ∧ (setOwnGrant g s).pending = s.pending := by
  unfold setOwnGrant; simp

/-- `syncEvict` changes only: line, tx. -/
@[simp] theorem syncEvict_frame (s : State) :
    (syncEvict s).resetN = s.resetN ∧ (syncEvict s).straps = s.straps ∧ (syncEvict s).pins = s.pins ∧
    (syncEvict s).chan = s.chan ∧ (syncEvict s).heater = s.heater ∧ (syncEvict s).stirrer = s.stirrer ∧
    (syncEvict s).scale = s.scale ∧ (syncEvict s).engine = s.engine ∧ (syncEvict s).slots = s.slots ∧
    (syncEvict s).share = s.share ∧ (syncEvict s).handler = s.handler ∧ (syncEvict s).board = s.board ∧
    (syncEvict s).journal = s.journal ∧ (syncEvict s).inbox = s.inbox ∧ (syncEvict s).freeCount = s.freeCount ∧
    (syncEvict s).pending = s.pending := by
  unfold syncEvict; (repeat' split) <;> simp

/-- `setPendingEvict` changes only: share, line, tx. -/
@[simp] theorem setPendingEvict_frame (m : StationSet) (s : State) :
    (setPendingEvict m s).resetN = s.resetN ∧ (setPendingEvict m s).straps = s.straps ∧
    (setPendingEvict m s).pins = s.pins ∧ (setPendingEvict m s).chan = s.chan ∧
    (setPendingEvict m s).heater = s.heater ∧ (setPendingEvict m s).stirrer = s.stirrer ∧
    (setPendingEvict m s).scale = s.scale ∧ (setPendingEvict m s).engine = s.engine ∧
    (setPendingEvict m s).slots = s.slots ∧ (setPendingEvict m s).handler = s.handler ∧
    (setPendingEvict m s).board = s.board ∧ (setPendingEvict m s).journal = s.journal ∧
    (setPendingEvict m s).inbox = s.inbox ∧ (setPendingEvict m s).freeCount = s.freeCount ∧
    (setPendingEvict m s).pending = s.pending := by
  unfold setPendingEvict; simp

/-- `addPending` changes only: share, line, tx. -/
@[simp] theorem addPending_frame (i : Station) (s : State) :
    (addPending i s).resetN = s.resetN ∧ (addPending i s).straps = s.straps ∧ (addPending i s).pins = s.pins ∧
    (addPending i s).chan = s.chan ∧ (addPending i s).heater = s.heater ∧ (addPending i s).stirrer = s.stirrer ∧
    (addPending i s).scale = s.scale ∧ (addPending i s).engine = s.engine ∧ (addPending i s).slots = s.slots ∧
    (addPending i s).handler = s.handler ∧ (addPending i s).board = s.board ∧
    (addPending i s).journal = s.journal ∧ (addPending i s).inbox = s.inbox ∧
    (addPending i s).freeCount = s.freeCount ∧ (addPending i s).pending = s.pending := by
  unfold addPending; simp

/-- `dropPending` changes only: share, line, tx. -/
@[simp] theorem dropPending_frame (i : Station) (s : State) :
    (dropPending i s).resetN = s.resetN ∧ (dropPending i s).straps = s.straps ∧
    (dropPending i s).pins = s.pins ∧ (dropPending i s).chan = s.chan ∧ (dropPending i s).heater = s.heater ∧
    (dropPending i s).stirrer = s.stirrer ∧ (dropPending i s).scale = s.scale ∧
    (dropPending i s).engine = s.engine ∧ (dropPending i s).slots = s.slots ∧
    (dropPending i s).handler = s.handler ∧ (dropPending i s).board = s.board ∧
    (dropPending i s).journal = s.journal ∧ (dropPending i s).inbox = s.inbox ∧
    (dropPending i s).freeCount = s.freeCount ∧ (dropPending i s).pending = s.pending := by
  unfold dropPending; simp

/-- `setUsable` changes only: share, inbox. -/
@[simp] theorem setUsable_frame (u : Nat) (s : State) :
    (setUsable u s).resetN = s.resetN ∧ (setUsable u s).straps = s.straps ∧ (setUsable u s).pins = s.pins ∧
    (setUsable u s).chan = s.chan ∧ (setUsable u s).heater = s.heater ∧ (setUsable u s).stirrer = s.stirrer ∧
    (setUsable u s).scale = s.scale ∧ (setUsable u s).engine = s.engine ∧ (setUsable u s).slots = s.slots ∧
    (setUsable u s).line = s.line ∧ (setUsable u s).tx = s.tx ∧ (setUsable u s).handler = s.handler ∧
    (setUsable u s).board = s.board ∧ (setUsable u s).journal = s.journal ∧
    (setUsable u s).freeCount = s.freeCount ∧ (setUsable u s).pending = s.pending := by
  unfold setUsable; split <;> simp

/-- `refreshUsable` changes only: share, inbox. -/
@[simp] theorem refreshUsable_frame (s : State) :
    (refreshUsable s).resetN = s.resetN ∧ (refreshUsable s).straps = s.straps ∧
    (refreshUsable s).pins = s.pins ∧ (refreshUsable s).chan = s.chan ∧ (refreshUsable s).heater = s.heater ∧
    (refreshUsable s).stirrer = s.stirrer ∧ (refreshUsable s).scale = s.scale ∧
    (refreshUsable s).engine = s.engine ∧ (refreshUsable s).slots = s.slots ∧ (refreshUsable s).line = s.line ∧
    (refreshUsable s).tx = s.tx ∧ (refreshUsable s).handler = s.handler ∧ (refreshUsable s).board = s.board ∧
    (refreshUsable s).journal = s.journal ∧ (refreshUsable s).freeCount = s.freeCount ∧
    (refreshUsable s).pending = s.pending := by
  unfold refreshUsable; simp

/-- `setWant` changes only: heater, inbox. -/
@[simp] theorem setWant_frame (w : Nat) (s : State) :
    (setWant w s).resetN = s.resetN ∧ (setWant w s).straps = s.straps ∧ (setWant w s).pins = s.pins ∧
    (setWant w s).chan = s.chan ∧ (setWant w s).stirrer = s.stirrer ∧ (setWant w s).scale = s.scale ∧
    (setWant w s).engine = s.engine ∧ (setWant w s).slots = s.slots ∧ (setWant w s).share = s.share ∧
    (setWant w s).line = s.line ∧ (setWant w s).tx = s.tx ∧ (setWant w s).handler = s.handler ∧
    (setWant w s).board = s.board ∧ (setWant w s).journal = s.journal ∧ (setWant w s).freeCount = s.freeCount ∧
    (setWant w s).pending = s.pending := by
  unfold setWant; (repeat' split) <;> simp

/-! ## Channels -/

/-- `filterChange` changes only: pins, chan. -/
@[simp] theorem filterChange_frame (c : Channel) (b : Bool) (s : State) :
    (filterChange c b s).resetN = s.resetN ∧ (filterChange c b s).straps = s.straps ∧
    (filterChange c b s).heater = s.heater ∧ (filterChange c b s).stirrer = s.stirrer ∧
    (filterChange c b s).scale = s.scale ∧ (filterChange c b s).engine = s.engine ∧
    (filterChange c b s).slots = s.slots ∧ (filterChange c b s).share = s.share ∧
    (filterChange c b s).line = s.line ∧ (filterChange c b s).tx = s.tx ∧
    (filterChange c b s).handler = s.handler ∧ (filterChange c b s).board = s.board ∧
    (filterChange c b s).journal = s.journal ∧ (filterChange c b s).inbox = s.inbox ∧
    (filterChange c b s).freeCount = s.freeCount ∧ (filterChange c b s).pending = s.pending := by
  unfold filterChange; (repeat' split) <;> simp

/-- `deliver` changes only: inbox. -/
@[simp] theorem deliver_frame (c : Channels) (s : State) :
    (deliver c s).resetN = s.resetN ∧ (deliver c s).straps = s.straps ∧ (deliver c s).pins = s.pins ∧
    (deliver c s).chan = s.chan ∧ (deliver c s).heater = s.heater ∧ (deliver c s).stirrer = s.stirrer ∧
    (deliver c s).scale = s.scale ∧ (deliver c s).engine = s.engine ∧ (deliver c s).slots = s.slots ∧
    (deliver c s).share = s.share ∧ (deliver c s).line = s.line ∧ (deliver c s).tx = s.tx ∧
    (deliver c s).handler = s.handler ∧ (deliver c s).board = s.board ∧ (deliver c s).journal = s.journal ∧
    (deliver c s).freeCount = s.freeCount ∧ (deliver c s).pending = s.pending := by
  unfold deliver; simp

/-- `gateReports` changes only: inbox. -/
@[simp] theorem gateReports_frame (b a : Channels) (s : State) :
    (gateReports b a s).resetN = s.resetN ∧ (gateReports b a s).straps = s.straps ∧
    (gateReports b a s).pins = s.pins ∧ (gateReports b a s).chan = s.chan ∧
    (gateReports b a s).heater = s.heater ∧ (gateReports b a s).stirrer = s.stirrer ∧
    (gateReports b a s).scale = s.scale ∧ (gateReports b a s).engine = s.engine ∧
    (gateReports b a s).slots = s.slots ∧ (gateReports b a s).share = s.share ∧
    (gateReports b a s).line = s.line ∧ (gateReports b a s).tx = s.tx ∧
    (gateReports b a s).handler = s.handler ∧ (gateReports b a s).board = s.board ∧
    (gateReports b a s).journal = s.journal ∧ (gateReports b a s).freeCount = s.freeCount ∧
    (gateReports b a s).pending = s.pending := by
  unfold gateReports; simp

/-- `gateEndOp` changes only: pins, chan, inbox. -/
@[simp] theorem gateEndOp_frame (b : Bool) (s : State) :
    (gateEndOp b s).resetN = s.resetN ∧ (gateEndOp b s).straps = s.straps ∧ (gateEndOp b s).heater = s.heater ∧
    (gateEndOp b s).stirrer = s.stirrer ∧ (gateEndOp b s).scale = s.scale ∧ (gateEndOp b s).engine = s.engine ∧
    (gateEndOp b s).slots = s.slots ∧ (gateEndOp b s).share = s.share ∧ (gateEndOp b s).line = s.line ∧
    (gateEndOp b s).tx = s.tx ∧ (gateEndOp b s).handler = s.handler ∧ (gateEndOp b s).board = s.board ∧
    (gateEndOp b s).journal = s.journal ∧ (gateEndOp b s).freeCount = s.freeCount ∧
    (gateEndOp b s).pending = s.pending := by
  unfold gateEndOp; simp

/-! ## Heater -/

/-- `heaterSetpoint` changes only: heater, inbox. -/
@[simp] theorem heaterSetpoint_frame (st : StepRec) (s : State) :
    (heaterSetpoint st s).resetN = s.resetN ∧ (heaterSetpoint st s).straps = s.straps ∧
    (heaterSetpoint st s).pins = s.pins ∧ (heaterSetpoint st s).chan = s.chan ∧
    (heaterSetpoint st s).stirrer = s.stirrer ∧ (heaterSetpoint st s).scale = s.scale ∧
    (heaterSetpoint st s).engine = s.engine ∧ (heaterSetpoint st s).slots = s.slots ∧
    (heaterSetpoint st s).share = s.share ∧ (heaterSetpoint st s).line = s.line ∧
    (heaterSetpoint st s).tx = s.tx ∧ (heaterSetpoint st s).handler = s.handler ∧
    (heaterSetpoint st s).board = s.board ∧ (heaterSetpoint st s).journal = s.journal ∧
    (heaterSetpoint st s).freeCount = s.freeCount ∧ (heaterSetpoint st s).pending = s.pending := by
  unfold heaterSetpoint; simp

/-- `heaterOff` changes only: heater, inbox. -/
@[simp] theorem heaterOff_frame (s : State) :
    (heaterOff s).resetN = s.resetN ∧ (heaterOff s).straps = s.straps ∧ (heaterOff s).pins = s.pins ∧
    (heaterOff s).chan = s.chan ∧ (heaterOff s).stirrer = s.stirrer ∧ (heaterOff s).scale = s.scale ∧
    (heaterOff s).engine = s.engine ∧ (heaterOff s).slots = s.slots ∧ (heaterOff s).share = s.share ∧
    (heaterOff s).line = s.line ∧ (heaterOff s).tx = s.tx ∧ (heaterOff s).handler = s.handler ∧
    (heaterOff s).board = s.board ∧ (heaterOff s).journal = s.journal ∧ (heaterOff s).freeCount = s.freeCount ∧
    (heaterOff s).pending = s.pending := by
  unfold heaterOff; (repeat' split) <;> simp

/-- `heaterResume` changes only: heater, inbox. -/
@[simp] theorem heaterResume_frame (st : StepRec) (c : SavedContext) (s : State) :
    (heaterResume st c s).resetN = s.resetN ∧ (heaterResume st c s).straps = s.straps ∧
    (heaterResume st c s).pins = s.pins ∧ (heaterResume st c s).chan = s.chan ∧
    (heaterResume st c s).stirrer = s.stirrer ∧ (heaterResume st c s).scale = s.scale ∧
    (heaterResume st c s).engine = s.engine ∧ (heaterResume st c s).slots = s.slots ∧
    (heaterResume st c s).share = s.share ∧ (heaterResume st c s).line = s.line ∧
    (heaterResume st c s).tx = s.tx ∧ (heaterResume st c s).handler = s.handler ∧
    (heaterResume st c s).board = s.board ∧ (heaterResume st c s).journal = s.journal ∧
    (heaterResume st c s).freeCount = s.freeCount ∧ (heaterResume st c s).pending = s.pending := by
  unfold heaterResume; simp

/-- `overTempTest` changes only: heater, inbox. -/
@[simp] theorem overTempTest_frame (set : SampleSet) (s : State) :
    (overTempTest set s).resetN = s.resetN ∧ (overTempTest set s).straps = s.straps ∧
    (overTempTest set s).pins = s.pins ∧ (overTempTest set s).chan = s.chan ∧
    (overTempTest set s).stirrer = s.stirrer ∧ (overTempTest set s).scale = s.scale ∧
    (overTempTest set s).engine = s.engine ∧ (overTempTest set s).slots = s.slots ∧
    (overTempTest set s).share = s.share ∧ (overTempTest set s).line = s.line ∧ (overTempTest set s).tx = s.tx ∧
    (overTempTest set s).handler = s.handler ∧ (overTempTest set s).board = s.board ∧
    (overTempTest set s).journal = s.journal ∧ (overTempTest set s).freeCount = s.freeCount ∧
    (overTempTest set s).pending = s.pending := by
  unfold overTempTest; (repeat' split) <;> simp

/-- `heaterSecond` changes only: heater, inbox. -/
@[simp] theorem heaterSecond_frame (set : SampleSet) (s : State) :
    (heaterSecond set s).resetN = s.resetN ∧ (heaterSecond set s).straps = s.straps ∧
    (heaterSecond set s).pins = s.pins ∧ (heaterSecond set s).chan = s.chan ∧
    (heaterSecond set s).stirrer = s.stirrer ∧ (heaterSecond set s).scale = s.scale ∧
    (heaterSecond set s).engine = s.engine ∧ (heaterSecond set s).slots = s.slots ∧
    (heaterSecond set s).share = s.share ∧ (heaterSecond set s).line = s.line ∧ (heaterSecond set s).tx = s.tx ∧
    (heaterSecond set s).handler = s.handler ∧ (heaterSecond set s).board = s.board ∧
    (heaterSecond set s).journal = s.journal ∧ (heaterSecond set s).freeCount = s.freeCount ∧
    (heaterSecond set s).pending = s.pending := by
  unfold heaterSecond; (repeat' split) <;> simp

/-- `heaterSetOp` changes only: heater, inbox. -/
@[simp] theorem heaterSetOp_frame (set : SampleSet) (s : State) :
    (heaterSetOp set s).resetN = s.resetN ∧ (heaterSetOp set s).straps = s.straps ∧
    (heaterSetOp set s).pins = s.pins ∧ (heaterSetOp set s).chan = s.chan ∧
    (heaterSetOp set s).stirrer = s.stirrer ∧ (heaterSetOp set s).scale = s.scale ∧
    (heaterSetOp set s).engine = s.engine ∧ (heaterSetOp set s).slots = s.slots ∧
    (heaterSetOp set s).share = s.share ∧ (heaterSetOp set s).line = s.line ∧ (heaterSetOp set s).tx = s.tx ∧
    (heaterSetOp set s).handler = s.handler ∧ (heaterSetOp set s).board = s.board ∧
    (heaterSetOp set s).journal = s.journal ∧ (heaterSetOp set s).freeCount = s.freeCount ∧
    (heaterSetOp set s).pending = s.pending := by
  unfold heaterSetOp; (repeat' split) <;> simp

/-- `burstSlotOp` changes only: heater. -/
@[simp] theorem burstSlotOp_frame (s : State) :
    (burstSlotOp s).resetN = s.resetN ∧ (burstSlotOp s).straps = s.straps ∧ (burstSlotOp s).pins = s.pins ∧
    (burstSlotOp s).chan = s.chan ∧ (burstSlotOp s).stirrer = s.stirrer ∧ (burstSlotOp s).scale = s.scale ∧
    (burstSlotOp s).engine = s.engine ∧ (burstSlotOp s).slots = s.slots ∧ (burstSlotOp s).share = s.share ∧
    (burstSlotOp s).line = s.line ∧ (burstSlotOp s).tx = s.tx ∧ (burstSlotOp s).handler = s.handler ∧
    (burstSlotOp s).board = s.board ∧ (burstSlotOp s).journal = s.journal ∧ (burstSlotOp s).inbox = s.inbox ∧
    (burstSlotOp s).freeCount = s.freeCount ∧ (burstSlotOp s).pending = s.pending := by
  unfold burstSlotOp; (repeat' split) <;> simp

/-- `bowlOpenHeaterOp` changes only: pins, heater. -/
@[simp] theorem bowlOpenHeaterOp_frame (s : State) :
    (bowlOpenHeaterOp s).resetN = s.resetN ∧ (bowlOpenHeaterOp s).straps = s.straps ∧
    (bowlOpenHeaterOp s).chan = s.chan ∧ (bowlOpenHeaterOp s).stirrer = s.stirrer ∧
    (bowlOpenHeaterOp s).scale = s.scale ∧ (bowlOpenHeaterOp s).engine = s.engine ∧
    (bowlOpenHeaterOp s).slots = s.slots ∧ (bowlOpenHeaterOp s).share = s.share ∧
    (bowlOpenHeaterOp s).line = s.line ∧ (bowlOpenHeaterOp s).tx = s.tx ∧
    (bowlOpenHeaterOp s).handler = s.handler ∧ (bowlOpenHeaterOp s).board = s.board ∧
    (bowlOpenHeaterOp s).journal = s.journal ∧ (bowlOpenHeaterOp s).inbox = s.inbox ∧
    (bowlOpenHeaterOp s).freeCount = s.freeCount ∧ (bowlOpenHeaterOp s).pending = s.pending := by
  unfold bowlOpenHeaterOp; simp

/-- `usableUnitsOp` changes only: heater, inbox. -/
@[simp] theorem usableUnitsOp_frame (s : State) :
    (usableUnitsOp s).resetN = s.resetN ∧ (usableUnitsOp s).straps = s.straps ∧
    (usableUnitsOp s).pins = s.pins ∧ (usableUnitsOp s).chan = s.chan ∧ (usableUnitsOp s).stirrer = s.stirrer ∧
    (usableUnitsOp s).scale = s.scale ∧ (usableUnitsOp s).engine = s.engine ∧
    (usableUnitsOp s).slots = s.slots ∧ (usableUnitsOp s).share = s.share ∧ (usableUnitsOp s).line = s.line ∧
    (usableUnitsOp s).tx = s.tx ∧ (usableUnitsOp s).handler = s.handler ∧ (usableUnitsOp s).board = s.board ∧
    (usableUnitsOp s).journal = s.journal ∧ (usableUnitsOp s).freeCount = s.freeCount ∧
    (usableUnitsOp s).pending = s.pending := by
  unfold usableUnitsOp; (repeat' split) <;> simp

/-! ## Stirrer -/

/-- `lockRequest` changes only: stirrer, inbox. -/
@[simp] theorem lockRequest_frame (s : State) :
    (lockRequest s).resetN = s.resetN ∧ (lockRequest s).straps = s.straps ∧ (lockRequest s).pins = s.pins ∧
    (lockRequest s).chan = s.chan ∧ (lockRequest s).heater = s.heater ∧ (lockRequest s).scale = s.scale ∧
    (lockRequest s).engine = s.engine ∧ (lockRequest s).slots = s.slots ∧ (lockRequest s).share = s.share ∧
    (lockRequest s).line = s.line ∧ (lockRequest s).tx = s.tx ∧ (lockRequest s).handler = s.handler ∧
    (lockRequest s).board = s.board ∧ (lockRequest s).journal = s.journal ∧
    (lockRequest s).freeCount = s.freeCount ∧ (lockRequest s).pending = s.pending := by
  unfold lockRequest; (repeat' split) <;> simp

/-- `actOnSetting` changes only: stirrer, inbox. -/
@[simp] theorem actOnSetting_frame (s : State) :
    (actOnSetting s).resetN = s.resetN ∧ (actOnSetting s).straps = s.straps ∧ (actOnSetting s).pins = s.pins ∧
    (actOnSetting s).chan = s.chan ∧ (actOnSetting s).heater = s.heater ∧ (actOnSetting s).scale = s.scale ∧
    (actOnSetting s).engine = s.engine ∧ (actOnSetting s).slots = s.slots ∧ (actOnSetting s).share = s.share ∧
    (actOnSetting s).line = s.line ∧ (actOnSetting s).tx = s.tx ∧ (actOnSetting s).handler = s.handler ∧
    (actOnSetting s).board = s.board ∧ (actOnSetting s).journal = s.journal ∧
    (actOnSetting s).freeCount = s.freeCount ∧ (actOnSetting s).pending = s.pending := by
  simp only [actOnSetting]; (repeat' split) <;> simp

/-- `giveSetting` changes only: stirrer, inbox. -/
@[simp] theorem giveSetting_frame (g : Setting) (p : Option PatternPos) (s : State) :
    (giveSetting g p s).resetN = s.resetN ∧ (giveSetting g p s).straps = s.straps ∧
    (giveSetting g p s).pins = s.pins ∧ (giveSetting g p s).chan = s.chan ∧
    (giveSetting g p s).heater = s.heater ∧ (giveSetting g p s).scale = s.scale ∧
    (giveSetting g p s).engine = s.engine ∧ (giveSetting g p s).slots = s.slots ∧
    (giveSetting g p s).share = s.share ∧ (giveSetting g p s).line = s.line ∧ (giveSetting g p s).tx = s.tx ∧
    (giveSetting g p s).handler = s.handler ∧ (giveSetting g p s).board = s.board ∧
    (giveSetting g p s).journal = s.journal ∧ (giveSetting g p s).freeCount = s.freeCount ∧
    (giveSetting g p s).pending = s.pending := by
  simp only [giveSetting]; (repeat' split) <;> simp

/-- `giveStop` changes only: stirrer, inbox. -/
@[simp] theorem giveStop_frame (s : State) :
    (giveStop s).resetN = s.resetN ∧ (giveStop s).straps = s.straps ∧ (giveStop s).pins = s.pins ∧
    (giveStop s).chan = s.chan ∧ (giveStop s).heater = s.heater ∧ (giveStop s).scale = s.scale ∧
    (giveStop s).engine = s.engine ∧ (giveStop s).slots = s.slots ∧ (giveStop s).share = s.share ∧
    (giveStop s).line = s.line ∧ (giveStop s).tx = s.tx ∧ (giveStop s).handler = s.handler ∧
    (giveStop s).board = s.board ∧ (giveStop s).journal = s.journal ∧ (giveStop s).freeCount = s.freeCount ∧
    (giveStop s).pending = s.pending := by
  unfold giveStop; simp

/-- `lidSenseTest` changes only: stirrer, inbox. -/
@[simp] theorem lidSenseTest_frame (set : SampleSet) (s : State) :
    (lidSenseTest set s).resetN = s.resetN ∧ (lidSenseTest set s).straps = s.straps ∧
    (lidSenseTest set s).pins = s.pins ∧ (lidSenseTest set s).chan = s.chan ∧
    (lidSenseTest set s).heater = s.heater ∧ (lidSenseTest set s).scale = s.scale ∧
    (lidSenseTest set s).engine = s.engine ∧ (lidSenseTest set s).slots = s.slots ∧
    (lidSenseTest set s).share = s.share ∧ (lidSenseTest set s).line = s.line ∧ (lidSenseTest set s).tx = s.tx ∧
    (lidSenseTest set s).handler = s.handler ∧ (lidSenseTest set s).board = s.board ∧
    (lidSenseTest set s).journal = s.journal ∧ (lidSenseTest set s).freeCount = s.freeCount ∧
    (lidSenseTest set s).pending = s.pending := by
  unfold lidSenseTest; simp

/-- `stoppingSet` changes only: stirrer, inbox. -/
@[simp] theorem stoppingSet_frame (set : SampleSet) (s : State) :
    (stoppingSet set s).resetN = s.resetN ∧ (stoppingSet set s).straps = s.straps ∧
    (stoppingSet set s).pins = s.pins ∧ (stoppingSet set s).chan = s.chan ∧
    (stoppingSet set s).heater = s.heater ∧ (stoppingSet set s).scale = s.scale ∧
    (stoppingSet set s).engine = s.engine ∧ (stoppingSet set s).slots = s.slots ∧
    (stoppingSet set s).share = s.share ∧ (stoppingSet set s).line = s.line ∧ (stoppingSet set s).tx = s.tx ∧
    (stoppingSet set s).handler = s.handler ∧ (stoppingSet set s).board = s.board ∧
    (stoppingSet set s).journal = s.journal ∧ (stoppingSet set s).freeCount = s.freeCount ∧
    (stoppingSet set s).pending = s.pending := by
  simp only [stoppingSet]; (repeat' split) <;> simp

/-- `stoppedSet` changes only: stirrer, inbox. -/
@[simp] theorem stoppedSet_frame (set : SampleSet) (s : State) :
    (stoppedSet set s).resetN = s.resetN ∧ (stoppedSet set s).straps = s.straps ∧
    (stoppedSet set s).pins = s.pins ∧ (stoppedSet set s).chan = s.chan ∧ (stoppedSet set s).heater = s.heater ∧
    (stoppedSet set s).scale = s.scale ∧ (stoppedSet set s).engine = s.engine ∧
    (stoppedSet set s).slots = s.slots ∧ (stoppedSet set s).share = s.share ∧ (stoppedSet set s).line = s.line ∧
    (stoppedSet set s).tx = s.tx ∧ (stoppedSet set s).handler = s.handler ∧ (stoppedSet set s).board = s.board ∧
    (stoppedSet set s).journal = s.journal ∧ (stoppedSet set s).freeCount = s.freeCount ∧
    (stoppedSet set s).pending = s.pending := by
  simp only [stoppedSet]; (repeat' split) <;> simp

/-- `runningSet` changes only: stirrer, inbox. -/
@[simp] theorem runningSet_frame (set : SampleSet) (s : State) :
    (runningSet set s).resetN = s.resetN ∧ (runningSet set s).straps = s.straps ∧
    (runningSet set s).pins = s.pins ∧ (runningSet set s).chan = s.chan ∧ (runningSet set s).heater = s.heater ∧
    (runningSet set s).scale = s.scale ∧ (runningSet set s).engine = s.engine ∧
    (runningSet set s).slots = s.slots ∧ (runningSet set s).share = s.share ∧ (runningSet set s).line = s.line ∧
    (runningSet set s).tx = s.tx ∧ (runningSet set s).handler = s.handler ∧ (runningSet set s).board = s.board ∧
    (runningSet set s).journal = s.journal ∧ (runningSet set s).freeCount = s.freeCount ∧
    (runningSet set s).pending = s.pending := by
  simp only [runningSet]; (repeat' split) <;> simp

/-- `stirrerStateSet` changes only: stirrer, inbox. -/
@[simp] theorem stirrerStateSet_frame (set : SampleSet) (s : State) :
    (stirrerStateSet set s).resetN = s.resetN ∧ (stirrerStateSet set s).straps = s.straps ∧
    (stirrerStateSet set s).pins = s.pins ∧ (stirrerStateSet set s).chan = s.chan ∧
    (stirrerStateSet set s).heater = s.heater ∧ (stirrerStateSet set s).scale = s.scale ∧
    (stirrerStateSet set s).engine = s.engine ∧ (stirrerStateSet set s).slots = s.slots ∧
    (stirrerStateSet set s).share = s.share ∧ (stirrerStateSet set s).line = s.line ∧
    (stirrerStateSet set s).tx = s.tx ∧ (stirrerStateSet set s).handler = s.handler ∧
    (stirrerStateSet set s).board = s.board ∧ (stirrerStateSet set s).journal = s.journal ∧
    (stirrerStateSet set s).freeCount = s.freeCount ∧ (stirrerStateSet set s).pending = s.pending := by
  unfold stirrerStateSet; (repeat' split) <;> simp

/-- `stirrerSetOp` changes only: stirrer, inbox. -/
@[simp] theorem stirrerSetOp_frame (set : SampleSet) (s : State) :
    (stirrerSetOp set s).resetN = s.resetN ∧ (stirrerSetOp set s).straps = s.straps ∧
    (stirrerSetOp set s).pins = s.pins ∧ (stirrerSetOp set s).chan = s.chan ∧
    (stirrerSetOp set s).heater = s.heater ∧ (stirrerSetOp set s).scale = s.scale ∧
    (stirrerSetOp set s).engine = s.engine ∧ (stirrerSetOp set s).slots = s.slots ∧
    (stirrerSetOp set s).share = s.share ∧ (stirrerSetOp set s).line = s.line ∧ (stirrerSetOp set s).tx = s.tx ∧
    (stirrerSetOp set s).handler = s.handler ∧ (stirrerSetOp set s).board = s.board ∧
    (stirrerSetOp set s).journal = s.journal ∧ (stirrerSetOp set s).freeCount = s.freeCount ∧
    (stirrerSetOp set s).pending = s.pending := by
  simp only [stirrerSetOp]; (repeat' split) <;> simp

/-- `bowlOpenStirrerOp` changes only: pins, stirrer. -/
@[simp] theorem bowlOpenStirrerOp_frame (s : State) :
    (bowlOpenStirrerOp s).resetN = s.resetN ∧ (bowlOpenStirrerOp s).straps = s.straps ∧
    (bowlOpenStirrerOp s).chan = s.chan ∧ (bowlOpenStirrerOp s).heater = s.heater ∧
    (bowlOpenStirrerOp s).scale = s.scale ∧ (bowlOpenStirrerOp s).engine = s.engine ∧
    (bowlOpenStirrerOp s).slots = s.slots ∧ (bowlOpenStirrerOp s).share = s.share ∧
    (bowlOpenStirrerOp s).line = s.line ∧ (bowlOpenStirrerOp s).tx = s.tx ∧
    (bowlOpenStirrerOp s).handler = s.handler ∧ (bowlOpenStirrerOp s).board = s.board ∧
    (bowlOpenStirrerOp s).journal = s.journal ∧ (bowlOpenStirrerOp s).inbox = s.inbox ∧
    (bowlOpenStirrerOp s).freeCount = s.freeCount ∧ (bowlOpenStirrerOp s).pending = s.pending := by
  unfold bowlOpenStirrerOp; (repeat' split) <;> simp

/-- `bowlSeatedOp` changes only: pins, stirrer, inbox. -/
@[simp] theorem bowlSeatedOp_frame (s : State) :
    (bowlSeatedOp s).resetN = s.resetN ∧ (bowlSeatedOp s).straps = s.straps ∧ (bowlSeatedOp s).chan = s.chan ∧
    (bowlSeatedOp s).heater = s.heater ∧ (bowlSeatedOp s).scale = s.scale ∧ (bowlSeatedOp s).engine = s.engine ∧
    (bowlSeatedOp s).slots = s.slots ∧ (bowlSeatedOp s).share = s.share ∧ (bowlSeatedOp s).line = s.line ∧
    (bowlSeatedOp s).tx = s.tx ∧ (bowlSeatedOp s).handler = s.handler ∧ (bowlSeatedOp s).board = s.board ∧
    (bowlSeatedOp s).journal = s.journal ∧ (bowlSeatedOp s).freeCount = s.freeCount ∧
    (bowlSeatedOp s).pending = s.pending := by
  simp only [bowlSeatedOp]; (repeat' split) <;> simp

/-- `lockSensedOp` changes only: pins, stirrer. -/
@[simp] theorem lockSensedOp_frame (s : State) :
    (lockSensedOp s).resetN = s.resetN ∧ (lockSensedOp s).straps = s.straps ∧ (lockSensedOp s).chan = s.chan ∧
    (lockSensedOp s).heater = s.heater ∧ (lockSensedOp s).scale = s.scale ∧ (lockSensedOp s).engine = s.engine ∧
    (lockSensedOp s).slots = s.slots ∧ (lockSensedOp s).share = s.share ∧ (lockSensedOp s).line = s.line ∧
    (lockSensedOp s).tx = s.tx ∧ (lockSensedOp s).handler = s.handler ∧ (lockSensedOp s).board = s.board ∧
    (lockSensedOp s).journal = s.journal ∧ (lockSensedOp s).inbox = s.inbox ∧
    (lockSensedOp s).freeCount = s.freeCount ∧ (lockSensedOp s).pending = s.pending := by
  unfold lockSensedOp; (repeat' split) <;> simp

/-- `lockDroppedOp` changes only: pins, stirrer, inbox. -/
@[simp] theorem lockDroppedOp_frame (s : State) :
    (lockDroppedOp s).resetN = s.resetN ∧ (lockDroppedOp s).straps = s.straps ∧
    (lockDroppedOp s).chan = s.chan ∧ (lockDroppedOp s).heater = s.heater ∧ (lockDroppedOp s).scale = s.scale ∧
    (lockDroppedOp s).engine = s.engine ∧ (lockDroppedOp s).slots = s.slots ∧
    (lockDroppedOp s).share = s.share ∧ (lockDroppedOp s).line = s.line ∧ (lockDroppedOp s).tx = s.tx ∧
    (lockDroppedOp s).handler = s.handler ∧ (lockDroppedOp s).board = s.board ∧
    (lockDroppedOp s).journal = s.journal ∧ (lockDroppedOp s).freeCount = s.freeCount ∧
    (lockDroppedOp s).pending = s.pending := by
  simp only [lockDroppedOp]; (repeat' split) <;> simp

/-- `lockTimerOp` changes only: stirrer, inbox. -/
@[simp] theorem lockTimerOp_frame (s : State) :
    (lockTimerOp s).resetN = s.resetN ∧ (lockTimerOp s).straps = s.straps ∧ (lockTimerOp s).pins = s.pins ∧
    (lockTimerOp s).chan = s.chan ∧ (lockTimerOp s).heater = s.heater ∧ (lockTimerOp s).scale = s.scale ∧
    (lockTimerOp s).engine = s.engine ∧ (lockTimerOp s).slots = s.slots ∧ (lockTimerOp s).share = s.share ∧
    (lockTimerOp s).line = s.line ∧ (lockTimerOp s).tx = s.tx ∧ (lockTimerOp s).handler = s.handler ∧
    (lockTimerOp s).board = s.board ∧ (lockTimerOp s).journal = s.journal ∧
    (lockTimerOp s).freeCount = s.freeCount ∧ (lockTimerOp s).pending = s.pending := by
  unfold lockTimerOp; (repeat' split) <;> simp

/-- `spinTimerOp` changes only: stirrer. -/
@[simp] theorem spinTimerOp_frame (s : State) :
    (spinTimerOp s).resetN = s.resetN ∧ (spinTimerOp s).straps = s.straps ∧ (spinTimerOp s).pins = s.pins ∧
    (spinTimerOp s).chan = s.chan ∧ (spinTimerOp s).heater = s.heater ∧ (spinTimerOp s).scale = s.scale ∧
    (spinTimerOp s).engine = s.engine ∧ (spinTimerOp s).slots = s.slots ∧ (spinTimerOp s).share = s.share ∧
    (spinTimerOp s).line = s.line ∧ (spinTimerOp s).tx = s.tx ∧ (spinTimerOp s).handler = s.handler ∧
    (spinTimerOp s).board = s.board ∧ (spinTimerOp s).journal = s.journal ∧ (spinTimerOp s).inbox = s.inbox ∧
    (spinTimerOp s).freeCount = s.freeCount ∧ (spinTimerOp s).pending = s.pending := by
  unfold spinTimerOp; (repeat' split) <;> simp

/-! ## Scale -/

/-- `scaleEnter` changes only: scale. -/
@[simp] theorem scaleEnter_frame (st : StepRec) (s : State) :
    (scaleEnter st s).resetN = s.resetN ∧ (scaleEnter st s).straps = s.straps ∧
    (scaleEnter st s).pins = s.pins ∧ (scaleEnter st s).chan = s.chan ∧ (scaleEnter st s).heater = s.heater ∧
    (scaleEnter st s).stirrer = s.stirrer ∧ (scaleEnter st s).engine = s.engine ∧
    (scaleEnter st s).slots = s.slots ∧ (scaleEnter st s).share = s.share ∧ (scaleEnter st s).line = s.line ∧
    (scaleEnter st s).tx = s.tx ∧ (scaleEnter st s).handler = s.handler ∧ (scaleEnter st s).board = s.board ∧
    (scaleEnter st s).journal = s.journal ∧ (scaleEnter st s).inbox = s.inbox ∧
    (scaleEnter st s).freeCount = s.freeCount ∧ (scaleEnter st s).pending = s.pending := by
  unfold scaleEnter; (repeat' split) <;> simp

/-- `scaleEnd` changes only: scale. -/
@[simp] theorem scaleEnd_frame (s : State) :
    (scaleEnd s).resetN = s.resetN ∧ (scaleEnd s).straps = s.straps ∧ (scaleEnd s).pins = s.pins ∧
    (scaleEnd s).chan = s.chan ∧ (scaleEnd s).heater = s.heater ∧ (scaleEnd s).stirrer = s.stirrer ∧
    (scaleEnd s).engine = s.engine ∧ (scaleEnd s).slots = s.slots ∧ (scaleEnd s).share = s.share ∧
    (scaleEnd s).line = s.line ∧ (scaleEnd s).tx = s.tx ∧ (scaleEnd s).handler = s.handler ∧
    (scaleEnd s).board = s.board ∧ (scaleEnd s).journal = s.journal ∧ (scaleEnd s).inbox = s.inbox ∧
    (scaleEnd s).freeCount = s.freeCount ∧ (scaleEnd s).pending = s.pending := by
  unfold scaleEnd; simp

/-- `satisfiedTest` changes only: scale, inbox. -/
@[simp] theorem satisfiedTest_frame (s : State) :
    (satisfiedTest s).resetN = s.resetN ∧ (satisfiedTest s).straps = s.straps ∧
    (satisfiedTest s).pins = s.pins ∧ (satisfiedTest s).chan = s.chan ∧ (satisfiedTest s).heater = s.heater ∧
    (satisfiedTest s).stirrer = s.stirrer ∧ (satisfiedTest s).engine = s.engine ∧
    (satisfiedTest s).slots = s.slots ∧ (satisfiedTest s).share = s.share ∧ (satisfiedTest s).line = s.line ∧
    (satisfiedTest s).tx = s.tx ∧ (satisfiedTest s).handler = s.handler ∧ (satisfiedTest s).board = s.board ∧
    (satisfiedTest s).journal = s.journal ∧ (satisfiedTest s).freeCount = s.freeCount ∧
    (satisfiedTest s).pending = s.pending := by
  unfold satisfiedTest; (repeat' split) <;> simp

/-- `plainReference` changes only: scale, journal. -/
@[simp] theorem plainReference_frame (n : Nat) (s : State) :
    (plainReference n s).resetN = s.resetN ∧ (plainReference n s).straps = s.straps ∧
    (plainReference n s).pins = s.pins ∧ (plainReference n s).chan = s.chan ∧
    (plainReference n s).heater = s.heater ∧ (plainReference n s).stirrer = s.stirrer ∧
    (plainReference n s).engine = s.engine ∧ (plainReference n s).slots = s.slots ∧
    (plainReference n s).share = s.share ∧ (plainReference n s).line = s.line ∧ (plainReference n s).tx = s.tx ∧
    (plainReference n s).handler = s.handler ∧ (plainReference n s).board = s.board ∧
    (plainReference n s).inbox = s.inbox ∧ (plainReference n s).freeCount = s.freeCount ∧
    (plainReference n s).pending = s.pending := by
  unfold plainReference; simp

/-- `reReference` changes only: scale, journal, inbox. -/
@[simp] theorem reReference_frame (n : Nat) (w : Int) (s : State) :
    (reReference n w s).resetN = s.resetN ∧ (reReference n w s).straps = s.straps ∧
    (reReference n w s).pins = s.pins ∧ (reReference n w s).chan = s.chan ∧
    (reReference n w s).heater = s.heater ∧ (reReference n w s).stirrer = s.stirrer ∧
    (reReference n w s).engine = s.engine ∧ (reReference n w s).slots = s.slots ∧
    (reReference n w s).share = s.share ∧ (reReference n w s).line = s.line ∧ (reReference n w s).tx = s.tx ∧
    (reReference n w s).handler = s.handler ∧ (reReference n w s).board = s.board ∧
    (reReference n w s).freeCount = s.freeCount ∧ (reReference n w s).pending = s.pending := by
  unfold reReference; simp

/-- `addSet` changes only: scale, journal, inbox. -/
@[simp] theorem addSet_frame (n : Nat) (s : State) :
    (addSet n s).resetN = s.resetN ∧ (addSet n s).straps = s.straps ∧ (addSet n s).pins = s.pins ∧
    (addSet n s).chan = s.chan ∧ (addSet n s).heater = s.heater ∧ (addSet n s).stirrer = s.stirrer ∧
    (addSet n s).engine = s.engine ∧ (addSet n s).slots = s.slots ∧ (addSet n s).share = s.share ∧
    (addSet n s).line = s.line ∧ (addSet n s).tx = s.tx ∧ (addSet n s).handler = s.handler ∧
    (addSet n s).board = s.board ∧ (addSet n s).freeCount = s.freeCount ∧ (addSet n s).pending = s.pending := by
  unfold addSet; simp

/-- `phaseWork` changes only: scale, journal, inbox. -/
@[simp] theorem phaseWork_frame (n : Nat) (s : State) :
    (phaseWork n s).resetN = s.resetN ∧ (phaseWork n s).straps = s.straps ∧ (phaseWork n s).pins = s.pins ∧
    (phaseWork n s).chan = s.chan ∧ (phaseWork n s).heater = s.heater ∧ (phaseWork n s).stirrer = s.stirrer ∧
    (phaseWork n s).engine = s.engine ∧ (phaseWork n s).slots = s.slots ∧ (phaseWork n s).share = s.share ∧
    (phaseWork n s).line = s.line ∧ (phaseWork n s).tx = s.tx ∧ (phaseWork n s).handler = s.handler ∧
    (phaseWork n s).board = s.board ∧ (phaseWork n s).freeCount = s.freeCount ∧
    (phaseWork n s).pending = s.pending := by
  unfold phaseWork; (repeat' split) <;> simp

/-- `weightTest` changes only: inbox. -/
@[simp] theorem weightTest_frame (g : Int) (s : State) :
    (weightTest g s).resetN = s.resetN ∧ (weightTest g s).straps = s.straps ∧ (weightTest g s).pins = s.pins ∧
    (weightTest g s).chan = s.chan ∧ (weightTest g s).heater = s.heater ∧ (weightTest g s).stirrer = s.stirrer ∧
    (weightTest g s).scale = s.scale ∧ (weightTest g s).engine = s.engine ∧ (weightTest g s).slots = s.slots ∧
    (weightTest g s).share = s.share ∧ (weightTest g s).line = s.line ∧ (weightTest g s).tx = s.tx ∧
    (weightTest g s).handler = s.handler ∧ (weightTest g s).board = s.board ∧
    (weightTest g s).journal = s.journal ∧ (weightTest g s).freeCount = s.freeCount ∧
    (weightTest g s).pending = s.pending := by
  unfold weightTest; simp

/-- `phaseSet` changes only: scale, journal, inbox. -/
@[simp] theorem phaseSet_frame (set : SampleSet) (s : State) :
    (phaseSet set s).resetN = s.resetN ∧ (phaseSet set s).straps = s.straps ∧ (phaseSet set s).pins = s.pins ∧
    (phaseSet set s).chan = s.chan ∧ (phaseSet set s).heater = s.heater ∧ (phaseSet set s).stirrer = s.stirrer ∧
    (phaseSet set s).engine = s.engine ∧ (phaseSet set s).slots = s.slots ∧ (phaseSet set s).share = s.share ∧
    (phaseSet set s).line = s.line ∧ (phaseSet set s).tx = s.tx ∧ (phaseSet set s).handler = s.handler ∧
    (phaseSet set s).board = s.board ∧ (phaseSet set s).freeCount = s.freeCount ∧
    (phaseSet set s).pending = s.pending := by
  unfold phaseSet; (repeat' split) <;> simp

/-- `countEarly` changes only: scale. -/
@[simp] theorem countEarly_frame (s : State) :
    (countEarly s).resetN = s.resetN ∧ (countEarly s).straps = s.straps ∧ (countEarly s).pins = s.pins ∧
    (countEarly s).chan = s.chan ∧ (countEarly s).heater = s.heater ∧ (countEarly s).stirrer = s.stirrer ∧
    (countEarly s).engine = s.engine ∧ (countEarly s).slots = s.slots ∧ (countEarly s).share = s.share ∧
    (countEarly s).line = s.line ∧ (countEarly s).tx = s.tx ∧ (countEarly s).handler = s.handler ∧
    (countEarly s).board = s.board ∧ (countEarly s).journal = s.journal ∧ (countEarly s).inbox = s.inbox ∧
    (countEarly s).freeCount = s.freeCount ∧ (countEarly s).pending = s.pending := by
  simp [countEarly]

/-- `scaleSetOp` changes only: scale, journal, inbox. -/
@[simp] theorem scaleSetOp_frame (set : SampleSet) (s : State) :
    (scaleSetOp set s).resetN = s.resetN ∧ (scaleSetOp set s).straps = s.straps ∧
    (scaleSetOp set s).pins = s.pins ∧ (scaleSetOp set s).chan = s.chan ∧ (scaleSetOp set s).heater = s.heater ∧
    (scaleSetOp set s).stirrer = s.stirrer ∧ (scaleSetOp set s).engine = s.engine ∧
    (scaleSetOp set s).slots = s.slots ∧ (scaleSetOp set s).share = s.share ∧ (scaleSetOp set s).line = s.line ∧
    (scaleSetOp set s).tx = s.tx ∧ (scaleSetOp set s).handler = s.handler ∧ (scaleSetOp set s).board = s.board ∧
    (scaleSetOp set s).freeCount = s.freeCount ∧ (scaleSetOp set s).pending = s.pending := by
  simp [scaleSetOp]

/-! ## Engine -/

/-- `setSlotState` changes only: slots. -/
@[simp] theorem setSlotState_frame (k : Fin 4) (st : SlotState) (s : State) :
    (setSlotState k st s).resetN = s.resetN ∧ (setSlotState k st s).straps = s.straps ∧
    (setSlotState k st s).pins = s.pins ∧ (setSlotState k st s).chan = s.chan ∧
    (setSlotState k st s).heater = s.heater ∧ (setSlotState k st s).stirrer = s.stirrer ∧
    (setSlotState k st s).scale = s.scale ∧ (setSlotState k st s).engine = s.engine ∧
    (setSlotState k st s).share = s.share ∧ (setSlotState k st s).line = s.line ∧
    (setSlotState k st s).tx = s.tx ∧ (setSlotState k st s).handler = s.handler ∧
    (setSlotState k st s).board = s.board ∧ (setSlotState k st s).journal = s.journal ∧
    (setSlotState k st s).inbox = s.inbox ∧ (setSlotState k st s).freeCount = s.freeCount ∧
    (setSlotState k st s).pending = s.pending := by
  unfold setSlotState; simp

/-- `returnSlot` changes only: slots. -/
@[simp] theorem returnSlot_frame (s : State) :
    (returnSlot s).resetN = s.resetN ∧ (returnSlot s).straps = s.straps ∧ (returnSlot s).pins = s.pins ∧
    (returnSlot s).chan = s.chan ∧ (returnSlot s).heater = s.heater ∧ (returnSlot s).stirrer = s.stirrer ∧
    (returnSlot s).scale = s.scale ∧ (returnSlot s).engine = s.engine ∧ (returnSlot s).share = s.share ∧
    (returnSlot s).line = s.line ∧ (returnSlot s).tx = s.tx ∧ (returnSlot s).handler = s.handler ∧
    (returnSlot s).board = s.board ∧ (returnSlot s).journal = s.journal ∧ (returnSlot s).inbox = s.inbox ∧
    (returnSlot s).freeCount = s.freeCount ∧ (returnSlot s).pending = s.pending := by
  unfold returnSlot; (repeat' split) <;> simp

/-- `raiseMark` changes only: board, line, tx. -/
@[simp] theorem raiseMark_frame (m : Fin 32) (s : State) :
    (raiseMark m s).resetN = s.resetN ∧ (raiseMark m s).straps = s.straps ∧ (raiseMark m s).pins = s.pins ∧
    (raiseMark m s).chan = s.chan ∧ (raiseMark m s).heater = s.heater ∧ (raiseMark m s).stirrer = s.stirrer ∧
    (raiseMark m s).scale = s.scale ∧ (raiseMark m s).engine = s.engine ∧ (raiseMark m s).slots = s.slots ∧
    (raiseMark m s).share = s.share ∧ (raiseMark m s).handler = s.handler ∧
    (raiseMark m s).journal = s.journal ∧ (raiseMark m s).inbox = s.inbox ∧
    (raiseMark m s).freeCount = s.freeCount ∧ (raiseMark m s).pending = s.pending := by
  unfold raiseMark; simp

/-- `raiseOf` changes only: board, line, tx. -/
@[simp] theorem raiseOf_frame (st : StepRec) (s : State) :
    (raiseOf st s).resetN = s.resetN ∧ (raiseOf st s).straps = s.straps ∧ (raiseOf st s).pins = s.pins ∧
    (raiseOf st s).chan = s.chan ∧ (raiseOf st s).heater = s.heater ∧ (raiseOf st s).stirrer = s.stirrer ∧
    (raiseOf st s).scale = s.scale ∧ (raiseOf st s).engine = s.engine ∧ (raiseOf st s).slots = s.slots ∧
    (raiseOf st s).share = s.share ∧ (raiseOf st s).handler = s.handler ∧ (raiseOf st s).journal = s.journal ∧
    (raiseOf st s).inbox = s.inbox ∧ (raiseOf st s).freeCount = s.freeCount ∧
    (raiseOf st s).pending = s.pending := by
  unfold raiseOf; (repeat' split) <;> simp

/-- `clearBoard` changes only: board, line, tx. -/
@[simp] theorem clearBoard_frame (s : State) :
    (clearBoard s).resetN = s.resetN ∧ (clearBoard s).straps = s.straps ∧ (clearBoard s).pins = s.pins ∧
    (clearBoard s).chan = s.chan ∧ (clearBoard s).heater = s.heater ∧ (clearBoard s).stirrer = s.stirrer ∧
    (clearBoard s).scale = s.scale ∧ (clearBoard s).engine = s.engine ∧ (clearBoard s).slots = s.slots ∧
    (clearBoard s).share = s.share ∧ (clearBoard s).handler = s.handler ∧ (clearBoard s).journal = s.journal ∧
    (clearBoard s).inbox = s.inbox ∧ (clearBoard s).freeCount = s.freeCount ∧
    (clearBoard s).pending = s.pending := by
  unfold clearBoard; simp

/-- `scaleSuspend` changes only: scale. -/
@[simp] theorem scaleSuspend_frame (s : State) :
    (scaleSuspend s).resetN = s.resetN ∧ (scaleSuspend s).straps = s.straps ∧ (scaleSuspend s).pins = s.pins ∧
    (scaleSuspend s).chan = s.chan ∧ (scaleSuspend s).heater = s.heater ∧ (scaleSuspend s).stirrer = s.stirrer ∧
    (scaleSuspend s).engine = s.engine ∧ (scaleSuspend s).slots = s.slots ∧ (scaleSuspend s).share = s.share ∧
    (scaleSuspend s).line = s.line ∧ (scaleSuspend s).tx = s.tx ∧ (scaleSuspend s).handler = s.handler ∧
    (scaleSuspend s).board = s.board ∧ (scaleSuspend s).journal = s.journal ∧ (scaleSuspend s).inbox = s.inbox ∧
    (scaleSuspend s).freeCount = s.freeCount ∧ (scaleSuspend s).pending = s.pending := by
  unfold scaleSuspend; (repeat' split) <;> simp

/-- `enterHold` changes only: engine, heater, stirrer, scale, journal, inbox. -/
@[simp] theorem enterHold_frame (c : HoldCause) (s : State) :
    (enterHold c s).resetN = s.resetN ∧ (enterHold c s).straps = s.straps ∧ (enterHold c s).pins = s.pins ∧
    (enterHold c s).chan = s.chan ∧ (enterHold c s).slots = s.slots ∧ (enterHold c s).share = s.share ∧
    (enterHold c s).line = s.line ∧ (enterHold c s).tx = s.tx ∧ (enterHold c s).handler = s.handler ∧
    (enterHold c s).board = s.board ∧ (enterHold c s).freeCount = s.freeCount ∧
    (enterHold c s).pending = s.pending := by
  unfold enterHold; simp

/-- `addHold` changes only: engine, journal. -/
@[simp] theorem addHold_frame (c : HoldCause) (s : State) :
    (addHold c s).resetN = s.resetN ∧ (addHold c s).straps = s.straps ∧ (addHold c s).pins = s.pins ∧
    (addHold c s).chan = s.chan ∧ (addHold c s).heater = s.heater ∧ (addHold c s).stirrer = s.stirrer ∧
    (addHold c s).scale = s.scale ∧ (addHold c s).slots = s.slots ∧ (addHold c s).share = s.share ∧
    (addHold c s).line = s.line ∧ (addHold c s).tx = s.tx ∧ (addHold c s).handler = s.handler ∧
    (addHold c s).board = s.board ∧ (addHold c s).inbox = s.inbox ∧ (addHold c s).freeCount = s.freeCount ∧
    (addHold c s).pending = s.pending := by
  unfold addHold; (repeat' split) <;> simp

/-- `raiseHold` changes only: engine, heater, stirrer, scale, journal, inbox. -/
@[simp] theorem raiseHold_frame (c : HoldCause) (s : State) :
    (raiseHold c s).resetN = s.resetN ∧ (raiseHold c s).straps = s.straps ∧ (raiseHold c s).pins = s.pins ∧
    (raiseHold c s).chan = s.chan ∧ (raiseHold c s).slots = s.slots ∧ (raiseHold c s).share = s.share ∧
    (raiseHold c s).line = s.line ∧ (raiseHold c s).tx = s.tx ∧ (raiseHold c s).handler = s.handler ∧
    (raiseHold c s).board = s.board ∧ (raiseHold c s).freeCount = s.freeCount ∧
    (raiseHold c s).pending = s.pending := by
  unfold raiseHold; (repeat' split) <;> simp

/-- `scaleResume` changes only: scale. -/
@[simp] theorem scaleResume_frame (c : SavedContext) (s : State) :
    (scaleResume c s).resetN = s.resetN ∧ (scaleResume c s).straps = s.straps ∧
    (scaleResume c s).pins = s.pins ∧ (scaleResume c s).chan = s.chan ∧ (scaleResume c s).heater = s.heater ∧
    (scaleResume c s).stirrer = s.stirrer ∧ (scaleResume c s).engine = s.engine ∧
    (scaleResume c s).slots = s.slots ∧ (scaleResume c s).share = s.share ∧ (scaleResume c s).line = s.line ∧
    (scaleResume c s).tx = s.tx ∧ (scaleResume c s).handler = s.handler ∧ (scaleResume c s).board = s.board ∧
    (scaleResume c s).journal = s.journal ∧ (scaleResume c s).inbox = s.inbox ∧
    (scaleResume c s).freeCount = s.freeCount ∧ (scaleResume c s).pending = s.pending := by
  unfold scaleResume; (repeat' split) <;> simp

/-- `resumeStep` changes only: engine, heater, stirrer, scale, journal, inbox. -/
@[simp] theorem resumeStep_frame (st : StepRec) (c : SavedContext) (s : State) :
    (resumeStep st c s).resetN = s.resetN ∧ (resumeStep st c s).straps = s.straps ∧
    (resumeStep st c s).pins = s.pins ∧ (resumeStep st c s).chan = s.chan ∧
    (resumeStep st c s).slots = s.slots ∧ (resumeStep st c s).share = s.share ∧
    (resumeStep st c s).line = s.line ∧ (resumeStep st c s).tx = s.tx ∧
    (resumeStep st c s).handler = s.handler ∧ (resumeStep st c s).board = s.board ∧
    (resumeStep st c s).freeCount = s.freeCount ∧ (resumeStep st c s).pending = s.pending := by
  unfold resumeStep; simp

/-- `enterStep` changes only: engine, heater, stirrer, scale, journal, inbox. -/
@[simp] theorem enterStep_frame (st : StepRec) (s : State) :
    (enterStep st s).resetN = s.resetN ∧ (enterStep st s).straps = s.straps ∧ (enterStep st s).pins = s.pins ∧
    (enterStep st s).chan = s.chan ∧ (enterStep st s).slots = s.slots ∧ (enterStep st s).share = s.share ∧
    (enterStep st s).line = s.line ∧ (enterStep st s).tx = s.tx ∧ (enterStep st s).handler = s.handler ∧
    (enterStep st s).board = s.board ∧ (enterStep st s).freeCount = s.freeCount ∧
    (enterStep st s).pending = s.pending := by
  unfold enterStep; simp

/-- Raising a list of causes changes only what raising one does. -/
@[simp] theorem raiseAll_frame (cs : List HoldCause) (s : State) :
    (cs.foldl (fun s c => raiseHold c s) s).resetN = s.resetN ∧
    (cs.foldl (fun s c => raiseHold c s) s).straps = s.straps ∧
    (cs.foldl (fun s c => raiseHold c s) s).pins = s.pins ∧
    (cs.foldl (fun s c => raiseHold c s) s).chan = s.chan ∧
    (cs.foldl (fun s c => raiseHold c s) s).slots = s.slots ∧
    (cs.foldl (fun s c => raiseHold c s) s).share = s.share ∧
    (cs.foldl (fun s c => raiseHold c s) s).line = s.line ∧
    (cs.foldl (fun s c => raiseHold c s) s).tx = s.tx ∧
    (cs.foldl (fun s c => raiseHold c s) s).handler = s.handler ∧
    (cs.foldl (fun s c => raiseHold c s) s).board = s.board ∧
    (cs.foldl (fun s c => raiseHold c s) s).freeCount = s.freeCount ∧
    (cs.foldl (fun s c => raiseHold c s) s).pending = s.pending := by
  induction cs generalizing s with
  | nil => simp
  | cons c cs ih => simp [ih]

/-- `stepEntry` changes only: engine, heater, stirrer, scale, journal, inbox. -/
@[simp] theorem stepEntry_frame (s : State) :
    (stepEntry s).resetN = s.resetN ∧ (stepEntry s).straps = s.straps ∧ (stepEntry s).pins = s.pins ∧
    (stepEntry s).chan = s.chan ∧ (stepEntry s).slots = s.slots ∧ (stepEntry s).share = s.share ∧
    (stepEntry s).line = s.line ∧ (stepEntry s).tx = s.tx ∧ (stepEntry s).handler = s.handler ∧
    (stepEntry s).board = s.board ∧ (stepEntry s).freeCount = s.freeCount ∧
    (stepEntry s).pending = s.pending := by
  unfold stepEntry; (repeat' split) <;> simp

/-- `runEnded` changes only: engine, slots, heater, stirrer, inbox. -/
@[simp] theorem runEnded_frame (s : State) :
    (runEnded s).resetN = s.resetN ∧ (runEnded s).straps = s.straps ∧ (runEnded s).pins = s.pins ∧
    (runEnded s).chan = s.chan ∧ (runEnded s).scale = s.scale ∧ (runEnded s).share = s.share ∧
    (runEnded s).line = s.line ∧ (runEnded s).tx = s.tx ∧ (runEnded s).handler = s.handler ∧
    (runEnded s).board = s.board ∧ (runEnded s).journal = s.journal ∧ (runEnded s).freeCount = s.freeCount ∧
    (runEnded s).pending = s.pending := by
  unfold runEnded; simp

/-- `stepExit` changes only: engine, heater, stirrer, scale, journal, inbox, slots, board, line, tx. -/
@[simp] theorem stepExit_frame (c : EndCause) (st : StepRec) (s : State) :
    (stepExit c st s).resetN = s.resetN ∧ (stepExit c st s).straps = s.straps ∧
    (stepExit c st s).pins = s.pins ∧ (stepExit c st s).chan = s.chan ∧ (stepExit c st s).share = s.share ∧
    (stepExit c st s).handler = s.handler ∧ (stepExit c st s).freeCount = s.freeCount ∧
    (stepExit c st s).pending = s.pending := by
  simp only [stepExit]; (repeat' split) <;> simp

/-- `supersede` changes only: engine, journal. -/
@[simp] theorem supersede_frame (s : State) :
    (supersede s).resetN = s.resetN ∧ (supersede s).straps = s.straps ∧ (supersede s).pins = s.pins ∧
    (supersede s).chan = s.chan ∧ (supersede s).heater = s.heater ∧ (supersede s).stirrer = s.stirrer ∧
    (supersede s).scale = s.scale ∧ (supersede s).slots = s.slots ∧ (supersede s).share = s.share ∧
    (supersede s).line = s.line ∧ (supersede s).tx = s.tx ∧ (supersede s).handler = s.handler ∧
    (supersede s).board = s.board ∧ (supersede s).inbox = s.inbox ∧ (supersede s).freeCount = s.freeCount ∧
    (supersede s).pending = s.pending := by
  unfold supersede; (repeat' split) <;> simp

/-- `startRun` changes only: engine, heater, stirrer, scale, journal, inbox, slots, board, line, tx. -/
@[simp] theorem startRun_frame (k : Fin 4) (tag : Byte) (m : StationSet) (s : State) :
    (startRun k tag m s).resetN = s.resetN ∧ (startRun k tag m s).straps = s.straps ∧
    (startRun k tag m s).pins = s.pins ∧ (startRun k tag m s).chan = s.chan ∧
    (startRun k tag m s).share = s.share ∧ (startRun k tag m s).handler = s.handler ∧
    (startRun k tag m s).freeCount = s.freeCount ∧ (startRun k tag m s).pending = s.pending := by
  unfold startRun; simp

/-- `abortRun` changes only: engine, heater, stirrer, scale, journal, inbox, slots. -/
@[simp] theorem abortRun_frame (s : State) :
    (abortRun s).resetN = s.resetN ∧ (abortRun s).straps = s.straps ∧ (abortRun s).pins = s.pins ∧
    (abortRun s).chan = s.chan ∧ (abortRun s).share = s.share ∧ (abortRun s).line = s.line ∧
    (abortRun s).tx = s.tx ∧ (abortRun s).handler = s.handler ∧ (abortRun s).board = s.board ∧
    (abortRun s).freeCount = s.freeCount ∧ (abortRun s).pending = s.pending := by
  unfold abortRun; simp

/-- `faultRun` changes only: engine, slots, journal. -/
@[simp] theorem faultRun_frame (s : State) :
    (faultRun s).resetN = s.resetN ∧ (faultRun s).straps = s.straps ∧ (faultRun s).pins = s.pins ∧
    (faultRun s).chan = s.chan ∧ (faultRun s).heater = s.heater ∧ (faultRun s).stirrer = s.stirrer ∧
    (faultRun s).scale = s.scale ∧ (faultRun s).share = s.share ∧ (faultRun s).line = s.line ∧
    (faultRun s).tx = s.tx ∧ (faultRun s).handler = s.handler ∧ (faultRun s).board = s.board ∧
    (faultRun s).inbox = s.inbox ∧ (faultRun s).freeCount = s.freeCount ∧ (faultRun s).pending = s.pending := by
  unfold faultRun; (repeat' split) <;> simp

/-- `latchFault` changes only: engine, heater, stirrer, scale, journal, inbox, slots. -/
@[simp] theorem latchFault_frame (c : FaultCode) (s : State) :
    (latchFault c s).resetN = s.resetN ∧ (latchFault c s).straps = s.straps ∧ (latchFault c s).pins = s.pins ∧
    (latchFault c s).chan = s.chan ∧ (latchFault c s).share = s.share ∧ (latchFault c s).line = s.line ∧
    (latchFault c s).tx = s.tx ∧ (latchFault c s).handler = s.handler ∧ (latchFault c s).board = s.board ∧
    (latchFault c s).freeCount = s.freeCount ∧ (latchFault c s).pending = s.pending := by
  unfold latchFault; simp

/-- `faultReport` changes only: engine, heater, stirrer, scale, journal, inbox, slots. -/
@[simp] theorem faultReport_frame (c : FaultCode) (s : State) :
    (faultReport c s).resetN = s.resetN ∧ (faultReport c s).straps = s.straps ∧
    (faultReport c s).pins = s.pins ∧ (faultReport c s).chan = s.chan ∧ (faultReport c s).share = s.share ∧
    (faultReport c s).line = s.line ∧ (faultReport c s).tx = s.tx ∧ (faultReport c s).handler = s.handler ∧
    (faultReport c s).board = s.board ∧ (faultReport c s).freeCount = s.freeCount ∧
    (faultReport c s).pending = s.pending := by
  unfold faultReport; (repeat' split) <;> simp

/-- `testFaults` changes only: engine, heater, stirrer, scale, journal, inbox, slots. -/
@[simp] theorem testFaults_frame (cs : List FaultCode) (s : State) :
    (testFaults cs s).resetN = s.resetN ∧ (testFaults cs s).straps = s.straps ∧
    (testFaults cs s).pins = s.pins ∧ (testFaults cs s).chan = s.chan ∧ (testFaults cs s).share = s.share ∧
    (testFaults cs s).line = s.line ∧ (testFaults cs s).tx = s.tx ∧ (testFaults cs s).handler = s.handler ∧
    (testFaults cs s).board = s.board ∧ (testFaults cs s).freeCount = s.freeCount ∧
    (testFaults cs s).pending = s.pending := by
  unfold testFaults
  induction cs generalizing s with
  | nil => simp
  | cons c cs ih => simp only [List.foldl_cons, ih]; split <;> simp

/-- `clearFault` changes only: engine, heater, stirrer, scale, journal, inbox, slots. -/
@[simp] theorem clearFault_frame (c : FaultCode) (s : State) :
    (clearFault c s).resetN = s.resetN ∧ (clearFault c s).straps = s.straps ∧ (clearFault c s).pins = s.pins ∧
    (clearFault c s).chan = s.chan ∧ (clearFault c s).share = s.share ∧ (clearFault c s).line = s.line ∧
    (clearFault c s).tx = s.tx ∧ (clearFault c s).handler = s.handler ∧ (clearFault c s).board = s.board ∧
    (clearFault c s).freeCount = s.freeCount ∧ (clearFault c s).pending = s.pending := by
  unfold clearFault; simp

/-- `engineProgress` changes only: engine, journal. -/
@[simp] theorem engineProgress_frame (st : StepRec) (set : SampleSet) (s : State) :
    (engineProgress st set s).resetN = s.resetN ∧ (engineProgress st set s).straps = s.straps ∧
    (engineProgress st set s).pins = s.pins ∧ (engineProgress st set s).chan = s.chan ∧
    (engineProgress st set s).heater = s.heater ∧ (engineProgress st set s).stirrer = s.stirrer ∧
    (engineProgress st set s).scale = s.scale ∧ (engineProgress st set s).slots = s.slots ∧
    (engineProgress st set s).share = s.share ∧ (engineProgress st set s).line = s.line ∧
    (engineProgress st set s).tx = s.tx ∧ (engineProgress st set s).handler = s.handler ∧
    (engineProgress st set s).board = s.board ∧ (engineProgress st set s).inbox = s.inbox ∧
    (engineProgress st set s).freeCount = s.freeCount ∧ (engineProgress st set s).pending = s.pending := by
  unfold engineProgress; simp

/-- `timeoutAct` changes only: engine, heater, stirrer, scale, journal, inbox, slots, board, line, tx. -/
@[simp] theorem timeoutAct_frame (st : StepRec) (s : State) :
    (timeoutAct st s).resetN = s.resetN ∧ (timeoutAct st s).straps = s.straps ∧
    (timeoutAct st s).pins = s.pins ∧ (timeoutAct st s).chan = s.chan ∧ (timeoutAct st s).share = s.share ∧
    (timeoutAct st s).handler = s.handler ∧ (timeoutAct st s).freeCount = s.freeCount ∧
    (timeoutAct st s).pending = s.pending := by
  unfold timeoutAct; (repeat' split) <;> simp

/-- `runSet` changes only: engine, heater, stirrer, scale, journal, inbox, slots, board, line, tx. -/
@[simp] theorem runSet_frame (st : StepRec) (set : SampleSet) (s : State) :
    (runSet st set s).resetN = s.resetN ∧ (runSet st set s).straps = s.straps ∧
    (runSet st set s).pins = s.pins ∧ (runSet st set s).chan = s.chan ∧ (runSet st set s).share = s.share ∧
    (runSet st set s).handler = s.handler ∧ (runSet st set s).freeCount = s.freeCount ∧
    (runSet st set s).pending = s.pending := by
  simp only [runSet]; (repeat' split) <;> simp

/-- `holdSet` changes only: engine, journal. -/
@[simp] theorem holdSet_frame (set : SampleSet) (s : State) :
    (holdSet set s).resetN = s.resetN ∧ (holdSet set s).straps = s.straps ∧ (holdSet set s).pins = s.pins ∧
    (holdSet set s).chan = s.chan ∧ (holdSet set s).heater = s.heater ∧ (holdSet set s).stirrer = s.stirrer ∧
    (holdSet set s).scale = s.scale ∧ (holdSet set s).slots = s.slots ∧ (holdSet set s).share = s.share ∧
    (holdSet set s).line = s.line ∧ (holdSet set s).tx = s.tx ∧ (holdSet set s).handler = s.handler ∧
    (holdSet set s).board = s.board ∧ (holdSet set s).inbox = s.inbox ∧
    (holdSet set s).freeCount = s.freeCount ∧ (holdSet set s).pending = s.pending := by
  unfold holdSet; (repeat' split) <;> simp

/-- `engineSetOp` changes only: engine, heater, stirrer, scale, journal, inbox, slots, board, line, tx. -/
@[simp] theorem engineSetOp_frame (set : SampleSet) (s : State) :
    (engineSetOp set s).resetN = s.resetN ∧ (engineSetOp set s).straps = s.straps ∧
    (engineSetOp set s).pins = s.pins ∧ (engineSetOp set s).chan = s.chan ∧
    (engineSetOp set s).share = s.share ∧ (engineSetOp set s).handler = s.handler ∧
    (engineSetOp set s).freeCount = s.freeCount ∧ (engineSetOp set s).pending = s.pending := by
  unfold engineSetOp; (repeat' split) <;> simp

/-- `addSatisfiedOp` changes only: engine, heater, stirrer, scale, journal, inbox, slots, board, line, tx. -/
@[simp] theorem addSatisfiedOp_frame (s : State) :
    (addSatisfiedOp s).resetN = s.resetN ∧ (addSatisfiedOp s).straps = s.straps ∧
    (addSatisfiedOp s).pins = s.pins ∧ (addSatisfiedOp s).chan = s.chan ∧ (addSatisfiedOp s).share = s.share ∧
    (addSatisfiedOp s).handler = s.handler ∧ (addSatisfiedOp s).freeCount = s.freeCount ∧
    (addSatisfiedOp s).pending = s.pending := by
  unfold addSatisfiedOp; (repeat' split) <;> simp

/-! ## Share -/

/-- `heardFrom` changes only: share, line, tx. -/
@[simp] theorem heardFrom_frame (i : Station) (s : State) :
    (heardFrom i s).resetN = s.resetN ∧ (heardFrom i s).straps = s.straps ∧ (heardFrom i s).pins = s.pins ∧
    (heardFrom i s).chan = s.chan ∧ (heardFrom i s).heater = s.heater ∧ (heardFrom i s).stirrer = s.stirrer ∧
    (heardFrom i s).scale = s.scale ∧ (heardFrom i s).engine = s.engine ∧ (heardFrom i s).slots = s.slots ∧
    (heardFrom i s).handler = s.handler ∧ (heardFrom i s).board = s.board ∧
    (heardFrom i s).journal = s.journal ∧ (heardFrom i s).inbox = s.inbox ∧
    (heardFrom i s).freeCount = s.freeCount ∧ (heardFrom i s).pending = s.pending := by
  simp only [heardFrom]; (repeat' split) <;> simp

/-- `claimOp` changes only: share. -/
@[simp] theorem claimOp_frame (i : Station) (r w : Byte) (s : State) :
    (claimOp i r w s).resetN = s.resetN ∧ (claimOp i r w s).straps = s.straps ∧
    (claimOp i r w s).pins = s.pins ∧ (claimOp i r w s).chan = s.chan ∧ (claimOp i r w s).heater = s.heater ∧
    (claimOp i r w s).stirrer = s.stirrer ∧ (claimOp i r w s).scale = s.scale ∧
    (claimOp i r w s).engine = s.engine ∧ (claimOp i r w s).slots = s.slots ∧ (claimOp i r w s).line = s.line ∧
    (claimOp i r w s).tx = s.tx ∧ (claimOp i r w s).handler = s.handler ∧ (claimOp i r w s).board = s.board ∧
    (claimOp i r w s).journal = s.journal ∧ (claimOp i r w s).inbox = s.inbox ∧
    (claimOp i r w s).freeCount = s.freeCount ∧ (claimOp i r w s).pending = s.pending := by
  unfold claimOp; (repeat' split) <;> simp

/-- `ownClaimTaken` changes only: share, inbox. -/
@[simp] theorem ownClaimTaken_frame (c : ClaimFrame) (s : State) :
    (ownClaimTaken c s).resetN = s.resetN ∧ (ownClaimTaken c s).straps = s.straps ∧
    (ownClaimTaken c s).pins = s.pins ∧ (ownClaimTaken c s).chan = s.chan ∧
    (ownClaimTaken c s).heater = s.heater ∧ (ownClaimTaken c s).stirrer = s.stirrer ∧
    (ownClaimTaken c s).scale = s.scale ∧ (ownClaimTaken c s).engine = s.engine ∧
    (ownClaimTaken c s).slots = s.slots ∧ (ownClaimTaken c s).line = s.line ∧ (ownClaimTaken c s).tx = s.tx ∧
    (ownClaimTaken c s).handler = s.handler ∧ (ownClaimTaken c s).board = s.board ∧
    (ownClaimTaken c s).journal = s.journal ∧ (ownClaimTaken c s).freeCount = s.freeCount ∧
    (ownClaimTaken c s).pending = s.pending := by
  unfold ownClaimTaken; simp

/-- `ownEviction` changes only: share, line, tx, journal, inbox. -/
@[simp] theorem ownEviction_frame (i : Station) (s : State) :
    (ownEviction i s).resetN = s.resetN ∧ (ownEviction i s).straps = s.straps ∧
    (ownEviction i s).pins = s.pins ∧ (ownEviction i s).chan = s.chan ∧ (ownEviction i s).heater = s.heater ∧
    (ownEviction i s).stirrer = s.stirrer ∧ (ownEviction i s).scale = s.scale ∧
    (ownEviction i s).engine = s.engine ∧ (ownEviction i s).slots = s.slots ∧
    (ownEviction i s).handler = s.handler ∧ (ownEviction i s).board = s.board ∧
    (ownEviction i s).freeCount = s.freeCount ∧ (ownEviction i s).pending = s.pending := by
  unfold ownEviction; simp

/-- `evictLive` changes only: share, line, tx, journal, inbox. -/
@[simp] theorem evictLive_frame (i : Station) (m : StationSet) (s : State) :
    (evictLive i m s).resetN = s.resetN ∧ (evictLive i m s).straps = s.straps ∧
    (evictLive i m s).pins = s.pins ∧ (evictLive i m s).chan = s.chan ∧ (evictLive i m s).heater = s.heater ∧
    (evictLive i m s).stirrer = s.stirrer ∧ (evictLive i m s).scale = s.scale ∧
    (evictLive i m s).engine = s.engine ∧ (evictLive i m s).slots = s.slots ∧
    (evictLive i m s).handler = s.handler ∧ (evictLive i m s).board = s.board ∧
    (evictLive i m s).freeCount = s.freeCount ∧ (evictLive i m s).pending = s.pending := by
  unfold evictLive; (repeat' split) <;> simp

/-- `evictListen` changes only: share, journal. -/
@[simp] theorem evictListen_frame (i : Station) (m : StationSet) (s : State) :
    (evictListen i m s).resetN = s.resetN ∧ (evictListen i m s).straps = s.straps ∧
    (evictListen i m s).pins = s.pins ∧ (evictListen i m s).chan = s.chan ∧
    (evictListen i m s).heater = s.heater ∧ (evictListen i m s).stirrer = s.stirrer ∧
    (evictListen i m s).scale = s.scale ∧ (evictListen i m s).engine = s.engine ∧
    (evictListen i m s).slots = s.slots ∧ (evictListen i m s).line = s.line ∧ (evictListen i m s).tx = s.tx ∧
    (evictListen i m s).handler = s.handler ∧ (evictListen i m s).board = s.board ∧
    (evictListen i m s).inbox = s.inbox ∧ (evictListen i m s).freeCount = s.freeCount ∧
    (evictListen i m s).pending = s.pending := by
  unfold evictListen; (repeat' split) <;> simp

/-- `evictOp` changes only: share, line, tx, journal, inbox. -/
@[simp] theorem evictOp_frame (i : Station) (m : StationSet) (s : State) :
    (evictOp i m s).resetN = s.resetN ∧ (evictOp i m s).straps = s.straps ∧ (evictOp i m s).pins = s.pins ∧
    (evictOp i m s).chan = s.chan ∧ (evictOp i m s).heater = s.heater ∧ (evictOp i m s).stirrer = s.stirrer ∧
    (evictOp i m s).scale = s.scale ∧ (evictOp i m s).engine = s.engine ∧ (evictOp i m s).slots = s.slots ∧
    (evictOp i m s).handler = s.handler ∧ (evictOp i m s).board = s.board ∧
    (evictOp i m s).freeCount = s.freeCount ∧ (evictOp i m s).pending = s.pending := by
  unfold evictOp; (repeat' split) <;> simp

/-- `budgetCheck` changes only: share, inbox. -/
@[simp] theorem budgetCheck_frame (i : Station) (c : Byte) (s : State) :
    (budgetCheck i c s).resetN = s.resetN ∧ (budgetCheck i c s).straps = s.straps ∧
    (budgetCheck i c s).pins = s.pins ∧ (budgetCheck i c s).chan = s.chan ∧
    (budgetCheck i c s).heater = s.heater ∧ (budgetCheck i c s).stirrer = s.stirrer ∧
    (budgetCheck i c s).scale = s.scale ∧ (budgetCheck i c s).engine = s.engine ∧
    (budgetCheck i c s).slots = s.slots ∧ (budgetCheck i c s).line = s.line ∧ (budgetCheck i c s).tx = s.tx ∧
    (budgetCheck i c s).handler = s.handler ∧ (budgetCheck i c s).board = s.board ∧
    (budgetCheck i c s).journal = s.journal ∧ (budgetCheck i c s).freeCount = s.freeCount ∧
    (budgetCheck i c s).pending = s.pending := by
  unfold budgetCheck; (repeat' split) <;> simp

/-- `presenceLive` changes only: share, line, tx, journal. -/
@[simp] theorem presenceLive_frame (i : Station) (g w : Byte) (s : State) :
    (presenceLive i g w s).resetN = s.resetN ∧ (presenceLive i g w s).straps = s.straps ∧
    (presenceLive i g w s).pins = s.pins ∧ (presenceLive i g w s).chan = s.chan ∧
    (presenceLive i g w s).heater = s.heater ∧ (presenceLive i g w s).stirrer = s.stirrer ∧
    (presenceLive i g w s).scale = s.scale ∧ (presenceLive i g w s).engine = s.engine ∧
    (presenceLive i g w s).slots = s.slots ∧ (presenceLive i g w s).handler = s.handler ∧
    (presenceLive i g w s).board = s.board ∧ (presenceLive i g w s).inbox = s.inbox ∧
    (presenceLive i g w s).freeCount = s.freeCount ∧ (presenceLive i g w s).pending = s.pending := by
  simp only [presenceLive]; (repeat' split) <;> simp

/-- `presenceListen` changes only: share. -/
@[simp] theorem presenceListen_frame (i : Station) (g w : Byte) (s : State) :
    (presenceListen i g w s).resetN = s.resetN ∧ (presenceListen i g w s).straps = s.straps ∧
    (presenceListen i g w s).pins = s.pins ∧ (presenceListen i g w s).chan = s.chan ∧
    (presenceListen i g w s).heater = s.heater ∧ (presenceListen i g w s).stirrer = s.stirrer ∧
    (presenceListen i g w s).scale = s.scale ∧ (presenceListen i g w s).engine = s.engine ∧
    (presenceListen i g w s).slots = s.slots ∧ (presenceListen i g w s).line = s.line ∧
    (presenceListen i g w s).tx = s.tx ∧ (presenceListen i g w s).handler = s.handler ∧
    (presenceListen i g w s).board = s.board ∧ (presenceListen i g w s).journal = s.journal ∧
    (presenceListen i g w s).inbox = s.inbox ∧ (presenceListen i g w s).freeCount = s.freeCount ∧
    (presenceListen i g w s).pending = s.pending := by
  unfold presenceListen; simp

/-- `presenceOp` changes only: share, line, tx, journal, inbox. -/
@[simp] theorem presenceOp_frame (i : Station) (c g w : Byte) (s : State) :
    (presenceOp i c g w s).resetN = s.resetN ∧ (presenceOp i c g w s).straps = s.straps ∧
    (presenceOp i c g w s).pins = s.pins ∧ (presenceOp i c g w s).chan = s.chan ∧
    (presenceOp i c g w s).heater = s.heater ∧ (presenceOp i c g w s).stirrer = s.stirrer ∧
    (presenceOp i c g w s).scale = s.scale ∧ (presenceOp i c g w s).engine = s.engine ∧
    (presenceOp i c g w s).slots = s.slots ∧ (presenceOp i c g w s).handler = s.handler ∧
    (presenceOp i c g w s).board = s.board ∧ (presenceOp i c g w s).freeCount = s.freeCount ∧
    (presenceOp i c g w s).pending = s.pending := by
  unfold presenceOp; (repeat' split) <;> simp

/-- `review` changes only: share, line, tx, inbox. -/
@[simp] theorem review_frame (s : State) :
    (review s).resetN = s.resetN ∧ (review s).straps = s.straps ∧ (review s).pins = s.pins ∧
    (review s).chan = s.chan ∧ (review s).heater = s.heater ∧ (review s).stirrer = s.stirrer ∧
    (review s).scale = s.scale ∧ (review s).engine = s.engine ∧ (review s).slots = s.slots ∧
    (review s).handler = s.handler ∧ (review s).board = s.board ∧ (review s).journal = s.journal ∧
    (review s).freeCount = s.freeCount ∧ (review s).pending = s.pending := by
  unfold review; simp

/-- `wantChangeOp` changes only: share, line, tx, inbox. -/
@[simp] theorem wantChangeOp_frame (s : State) :
    (wantChangeOp s).resetN = s.resetN ∧ (wantChangeOp s).straps = s.straps ∧ (wantChangeOp s).pins = s.pins ∧
    (wantChangeOp s).chan = s.chan ∧ (wantChangeOp s).heater = s.heater ∧ (wantChangeOp s).stirrer = s.stirrer ∧
    (wantChangeOp s).scale = s.scale ∧ (wantChangeOp s).engine = s.engine ∧ (wantChangeOp s).slots = s.slots ∧
    (wantChangeOp s).handler = s.handler ∧ (wantChangeOp s).board = s.board ∧
    (wantChangeOp s).journal = s.journal ∧ (wantChangeOp s).freeCount = s.freeCount ∧
    (wantChangeOp s).pending = s.pending := by
  unfold wantChangeOp; (repeat' split) <;> simp

/-- `reviewTimerOp` changes only: share, line, tx, inbox. -/
@[simp] theorem reviewTimerOp_frame (s : State) :
    (reviewTimerOp s).resetN = s.resetN ∧ (reviewTimerOp s).straps = s.straps ∧
    (reviewTimerOp s).pins = s.pins ∧ (reviewTimerOp s).chan = s.chan ∧ (reviewTimerOp s).heater = s.heater ∧
    (reviewTimerOp s).stirrer = s.stirrer ∧ (reviewTimerOp s).scale = s.scale ∧
    (reviewTimerOp s).engine = s.engine ∧ (reviewTimerOp s).slots = s.slots ∧
    (reviewTimerOp s).handler = s.handler ∧ (reviewTimerOp s).board = s.board ∧
    (reviewTimerOp s).journal = s.journal ∧ (reviewTimerOp s).freeCount = s.freeCount ∧
    (reviewTimerOp s).pending = s.pending := by
  unfold reviewTimerOp; (repeat' split) <;> simp

/-- `silenceOp` changes only: share, line, tx. -/
@[simp] theorem silenceOp_frame (i : Station) (s : State) :
    (silenceOp i s).resetN = s.resetN ∧ (silenceOp i s).straps = s.straps ∧ (silenceOp i s).pins = s.pins ∧
    (silenceOp i s).chan = s.chan ∧ (silenceOp i s).heater = s.heater ∧ (silenceOp i s).stirrer = s.stirrer ∧
    (silenceOp i s).scale = s.scale ∧ (silenceOp i s).engine = s.engine ∧ (silenceOp i s).slots = s.slots ∧
    (silenceOp i s).handler = s.handler ∧ (silenceOp i s).board = s.board ∧
    (silenceOp i s).journal = s.journal ∧ (silenceOp i s).inbox = s.inbox ∧
    (silenceOp i s).freeCount = s.freeCount ∧ (silenceOp i s).pending = s.pending := by
  simp only [silenceOp]; (repeat' split) <;> simp

/-- `clearTable` changes only: share. -/
@[simp] theorem clearTable_frame (s : State) :
    (clearTable s).resetN = s.resetN ∧ (clearTable s).straps = s.straps ∧ (clearTable s).pins = s.pins ∧
    (clearTable s).chan = s.chan ∧ (clearTable s).heater = s.heater ∧ (clearTable s).stirrer = s.stirrer ∧
    (clearTable s).scale = s.scale ∧ (clearTable s).engine = s.engine ∧ (clearTable s).slots = s.slots ∧
    (clearTable s).line = s.line ∧ (clearTable s).tx = s.tx ∧ (clearTable s).handler = s.handler ∧
    (clearTable s).board = s.board ∧ (clearTable s).journal = s.journal ∧ (clearTable s).inbox = s.inbox ∧
    (clearTable s).freeCount = s.freeCount ∧ (clearTable s).pending = s.pending := by
  unfold clearTable; simp

/-- `shareLiveEntry` changes only: share, line, tx, inbox. -/
@[simp] theorem shareLiveEntry_frame (s : State) :
    (shareLiveEntry s).resetN = s.resetN ∧ (shareLiveEntry s).straps = s.straps ∧
    (shareLiveEntry s).pins = s.pins ∧ (shareLiveEntry s).chan = s.chan ∧ (shareLiveEntry s).heater = s.heater ∧
    (shareLiveEntry s).stirrer = s.stirrer ∧ (shareLiveEntry s).scale = s.scale ∧
    (shareLiveEntry s).engine = s.engine ∧ (shareLiveEntry s).slots = s.slots ∧
    (shareLiveEntry s).handler = s.handler ∧ (shareLiveEntry s).board = s.board ∧
    (shareLiveEntry s).journal = s.journal ∧ (shareLiveEntry s).freeCount = s.freeCount ∧
    (shareLiveEntry s).pending = s.pending := by
  unfold shareLiveEntry; simp

/-- `shareLeaveLive` changes only: share, line, tx, inbox. -/
@[simp] theorem shareLeaveLive_frame (s : State) :
    (shareLeaveLive s).resetN = s.resetN ∧ (shareLeaveLive s).straps = s.straps ∧
    (shareLeaveLive s).pins = s.pins ∧ (shareLeaveLive s).chan = s.chan ∧ (shareLeaveLive s).heater = s.heater ∧
    (shareLeaveLive s).stirrer = s.stirrer ∧ (shareLeaveLive s).scale = s.scale ∧
    (shareLeaveLive s).engine = s.engine ∧ (shareLeaveLive s).slots = s.slots ∧
    (shareLeaveLive s).handler = s.handler ∧ (shareLeaveLive s).board = s.board ∧
    (shareLeaveLive s).journal = s.journal ∧ (shareLeaveLive s).freeCount = s.freeCount ∧
    (shareLeaveLive s).pending = s.pending := by
  unfold shareLeaveLive; simp

/-! ## Line -/

/-- `startWindow` changes only: line, share. -/
@[simp] theorem startWindow_frame (s : State) :
    (startWindow s).resetN = s.resetN ∧ (startWindow s).straps = s.straps ∧ (startWindow s).pins = s.pins ∧
    (startWindow s).chan = s.chan ∧ (startWindow s).heater = s.heater ∧ (startWindow s).stirrer = s.stirrer ∧
    (startWindow s).scale = s.scale ∧ (startWindow s).engine = s.engine ∧ (startWindow s).slots = s.slots ∧
    (startWindow s).tx = s.tx ∧ (startWindow s).handler = s.handler ∧ (startWindow s).board = s.board ∧
    (startWindow s).journal = s.journal ∧ (startWindow s).inbox = s.inbox ∧
    (startWindow s).freeCount = s.freeCount ∧ (startWindow s).pending = s.pending := by
  unfold startWindow; simp

/-- `enterListen` changes only: line, share. -/
@[simp] theorem enterListen_frame (s : State) :
    (enterListen s).resetN = s.resetN ∧ (enterListen s).straps = s.straps ∧ (enterListen s).pins = s.pins ∧
    (enterListen s).chan = s.chan ∧ (enterListen s).heater = s.heater ∧ (enterListen s).stirrer = s.stirrer ∧
    (enterListen s).scale = s.scale ∧ (enterListen s).engine = s.engine ∧ (enterListen s).slots = s.slots ∧
    (enterListen s).tx = s.tx ∧ (enterListen s).handler = s.handler ∧ (enterListen s).board = s.board ∧
    (enterListen s).journal = s.journal ∧ (enterListen s).inbox = s.inbox ∧
    (enterListen s).freeCount = s.freeCount ∧ (enterListen s).pending = s.pending := by
  unfold enterListen; simp

/-- `enterLive` changes only: line, share, tx, journal, inbox. -/
@[simp] theorem enterLive_frame (s : State) :
    (enterLive s).resetN = s.resetN ∧ (enterLive s).straps = s.straps ∧ (enterLive s).pins = s.pins ∧
    (enterLive s).chan = s.chan ∧ (enterLive s).heater = s.heater ∧ (enterLive s).stirrer = s.stirrer ∧
    (enterLive s).scale = s.scale ∧ (enterLive s).engine = s.engine ∧ (enterLive s).slots = s.slots ∧
    (enterLive s).handler = s.handler ∧ (enterLive s).board = s.board ∧ (enterLive s).freeCount = s.freeCount ∧
    (enterLive s).pending = s.pending := by
  unfold enterLive; simp

/-- `leaveLive` changes only: line, share, tx, journal, inbox. -/
@[simp] theorem leaveLive_frame (r : LeftReason) (s : State) :
    (leaveLive r s).resetN = s.resetN ∧ (leaveLive r s).straps = s.straps ∧ (leaveLive r s).pins = s.pins ∧
    (leaveLive r s).chan = s.chan ∧ (leaveLive r s).heater = s.heater ∧ (leaveLive r s).stirrer = s.stirrer ∧
    (leaveLive r s).scale = s.scale ∧ (leaveLive r s).engine = s.engine ∧ (leaveLive r s).slots = s.slots ∧
    (leaveLive r s).handler = s.handler ∧ (leaveLive r s).board = s.board ∧
    (leaveLive r s).freeCount = s.freeCount ∧ (leaveLive r s).pending = s.pending := by
  unfold leaveLive; simp

/-- `offerNext` changes only: line. -/
@[simp] theorem offerNext_frame (r : Option Byte) (s : State) :
    (offerNext r s).resetN = s.resetN ∧ (offerNext r s).straps = s.straps ∧ (offerNext r s).pins = s.pins ∧
    (offerNext r s).chan = s.chan ∧ (offerNext r s).heater = s.heater ∧ (offerNext r s).stirrer = s.stirrer ∧
    (offerNext r s).scale = s.scale ∧ (offerNext r s).engine = s.engine ∧ (offerNext r s).slots = s.slots ∧
    (offerNext r s).share = s.share ∧ (offerNext r s).tx = s.tx ∧ (offerNext r s).handler = s.handler ∧
    (offerNext r s).board = s.board ∧ (offerNext r s).journal = s.journal ∧ (offerNext r s).inbox = s.inbox ∧
    (offerNext r s).freeCount = s.freeCount ∧ (offerNext r s).pending = s.pending := by
  unfold offerNext; (repeat' split) <;> simp

/-- `forgetAbandoned` changes only: line. -/
@[simp] theorem forgetAbandoned_frame (s : State) :
    (forgetAbandoned s).resetN = s.resetN ∧ (forgetAbandoned s).straps = s.straps ∧
    (forgetAbandoned s).pins = s.pins ∧ (forgetAbandoned s).chan = s.chan ∧
    (forgetAbandoned s).heater = s.heater ∧ (forgetAbandoned s).stirrer = s.stirrer ∧
    (forgetAbandoned s).scale = s.scale ∧ (forgetAbandoned s).engine = s.engine ∧
    (forgetAbandoned s).slots = s.slots ∧ (forgetAbandoned s).share = s.share ∧ (forgetAbandoned s).tx = s.tx ∧
    (forgetAbandoned s).handler = s.handler ∧ (forgetAbandoned s).board = s.board ∧
    (forgetAbandoned s).journal = s.journal ∧ (forgetAbandoned s).inbox = s.inbox ∧
    (forgetAbandoned s).freeCount = s.freeCount ∧ (forgetAbandoned s).pending = s.pending := by
  unfold forgetAbandoned; simp

/-- `offerOp` changes only: line. -/
@[simp] theorem offerOp_frame (r : Option Byte) (s : State) :
    (offerOp r s).resetN = s.resetN ∧ (offerOp r s).straps = s.straps ∧ (offerOp r s).pins = s.pins ∧
    (offerOp r s).chan = s.chan ∧ (offerOp r s).heater = s.heater ∧ (offerOp r s).stirrer = s.stirrer ∧
    (offerOp r s).scale = s.scale ∧ (offerOp r s).engine = s.engine ∧ (offerOp r s).slots = s.slots ∧
    (offerOp r s).share = s.share ∧ (offerOp r s).tx = s.tx ∧ (offerOp r s).handler = s.handler ∧
    (offerOp r s).board = s.board ∧ (offerOp r s).journal = s.journal ∧ (offerOp r s).inbox = s.inbox ∧
    (offerOp r s).freeCount = s.freeCount ∧ (offerOp r s).pending = s.pending := by
  unfold offerOp; simp

/-- `frameOffLine` changes only: line, tx. -/
@[simp] theorem frameOffLine_frame (f : LineFrame) (b : Bool) (s : State) :
    (frameOffLine f b s).resetN = s.resetN ∧ (frameOffLine f b s).straps = s.straps ∧
    (frameOffLine f b s).pins = s.pins ∧ (frameOffLine f b s).chan = s.chan ∧
    (frameOffLine f b s).heater = s.heater ∧ (frameOffLine f b s).stirrer = s.stirrer ∧
    (frameOffLine f b s).scale = s.scale ∧ (frameOffLine f b s).engine = s.engine ∧
    (frameOffLine f b s).slots = s.slots ∧ (frameOffLine f b s).share = s.share ∧
    (frameOffLine f b s).handler = s.handler ∧ (frameOffLine f b s).board = s.board ∧
    (frameOffLine f b s).journal = s.journal ∧ (frameOffLine f b s).inbox = s.inbox ∧
    (frameOffLine f b s).freeCount = s.freeCount ∧ (frameOffLine f b s).pending = s.pending := by
  unfold frameOffLine; simp

/-- `checkedGood` changes only: line. -/
@[simp] theorem checkedGood_frame (s : State) :
    (checkedGood s).resetN = s.resetN ∧ (checkedGood s).straps = s.straps ∧ (checkedGood s).pins = s.pins ∧
    (checkedGood s).chan = s.chan ∧ (checkedGood s).heater = s.heater ∧ (checkedGood s).stirrer = s.stirrer ∧
    (checkedGood s).scale = s.scale ∧ (checkedGood s).engine = s.engine ∧ (checkedGood s).slots = s.slots ∧
    (checkedGood s).share = s.share ∧ (checkedGood s).tx = s.tx ∧ (checkedGood s).handler = s.handler ∧
    (checkedGood s).board = s.board ∧ (checkedGood s).journal = s.journal ∧ (checkedGood s).inbox = s.inbox ∧
    (checkedGood s).freeCount = s.freeCount ∧ (checkedGood s).pending = s.pending := by
  unfold checkedGood; (repeat' split) <;> simp

/-- `presenceTimerOp` changes only: line, tx. -/
@[simp] theorem presenceTimerOp_frame (s : State) :
    (presenceTimerOp s).resetN = s.resetN ∧ (presenceTimerOp s).straps = s.straps ∧
    (presenceTimerOp s).pins = s.pins ∧ (presenceTimerOp s).chan = s.chan ∧
    (presenceTimerOp s).heater = s.heater ∧ (presenceTimerOp s).stirrer = s.stirrer ∧
    (presenceTimerOp s).scale = s.scale ∧ (presenceTimerOp s).engine = s.engine ∧
    (presenceTimerOp s).slots = s.slots ∧ (presenceTimerOp s).share = s.share ∧
    (presenceTimerOp s).handler = s.handler ∧ (presenceTimerOp s).board = s.board ∧
    (presenceTimerOp s).journal = s.journal ∧ (presenceTimerOp s).inbox = s.inbox ∧
    (presenceTimerOp s).freeCount = s.freeCount ∧ (presenceTimerOp s).pending = s.pending := by
  unfold presenceTimerOp; (repeat' split) <;> simp

/-- `windowOp` changes only: line, share, tx, journal, inbox. -/
@[simp] theorem windowOp_frame (s : State) :
    (windowOp s).resetN = s.resetN ∧ (windowOp s).straps = s.straps ∧ (windowOp s).pins = s.pins ∧
    (windowOp s).chan = s.chan ∧ (windowOp s).heater = s.heater ∧ (windowOp s).stirrer = s.stirrer ∧
    (windowOp s).scale = s.scale ∧ (windowOp s).engine = s.engine ∧ (windowOp s).slots = s.slots ∧
    (windowOp s).handler = s.handler ∧ (windowOp s).board = s.board ∧ (windowOp s).freeCount = s.freeCount ∧
    (windowOp s).pending = s.pending := by
  unfold windowOp; (repeat' split) <;> simp

/-- `tableReadyOp` changes only: line, share, tx, journal, inbox. -/
@[simp] theorem tableReadyOp_frame (s : State) :
    (tableReadyOp s).resetN = s.resetN ∧ (tableReadyOp s).straps = s.straps ∧ (tableReadyOp s).pins = s.pins ∧
    (tableReadyOp s).chan = s.chan ∧ (tableReadyOp s).heater = s.heater ∧ (tableReadyOp s).stirrer = s.stirrer ∧
    (tableReadyOp s).scale = s.scale ∧ (tableReadyOp s).engine = s.engine ∧ (tableReadyOp s).slots = s.slots ∧
    (tableReadyOp s).handler = s.handler ∧ (tableReadyOp s).board = s.board ∧
    (tableReadyOp s).freeCount = s.freeCount ∧ (tableReadyOp s).pending = s.pending := by
  unfold tableReadyOp; (repeat' split) <;> simp

/-- `quietTimerOp` changes only: line, share. -/
@[simp] theorem quietTimerOp_frame (s : State) :
    (quietTimerOp s).resetN = s.resetN ∧ (quietTimerOp s).straps = s.straps ∧ (quietTimerOp s).pins = s.pins ∧
    (quietTimerOp s).chan = s.chan ∧ (quietTimerOp s).heater = s.heater ∧ (quietTimerOp s).stirrer = s.stirrer ∧
    (quietTimerOp s).scale = s.scale ∧ (quietTimerOp s).engine = s.engine ∧ (quietTimerOp s).slots = s.slots ∧
    (quietTimerOp s).tx = s.tx ∧ (quietTimerOp s).handler = s.handler ∧ (quietTimerOp s).board = s.board ∧
    (quietTimerOp s).journal = s.journal ∧ (quietTimerOp s).inbox = s.inbox ∧
    (quietTimerOp s).freeCount = s.freeCount ∧ (quietTimerOp s).pending = s.pending := by
  unfold quietTimerOp; (repeat' split) <;> simp

/-! ## Frames -/

/-- `boardAdd` changes only: board. -/
@[simp] theorem boardAdd_frame (i : Station) (t : Byte) (m : MarkSet) (s : State) :
    (boardAdd i t m s).resetN = s.resetN ∧ (boardAdd i t m s).straps = s.straps ∧
    (boardAdd i t m s).pins = s.pins ∧ (boardAdd i t m s).chan = s.chan ∧ (boardAdd i t m s).heater = s.heater ∧
    (boardAdd i t m s).stirrer = s.stirrer ∧ (boardAdd i t m s).scale = s.scale ∧
    (boardAdd i t m s).engine = s.engine ∧ (boardAdd i t m s).slots = s.slots ∧
    (boardAdd i t m s).share = s.share ∧ (boardAdd i t m s).line = s.line ∧ (boardAdd i t m s).tx = s.tx ∧
    (boardAdd i t m s).handler = s.handler ∧ (boardAdd i t m s).journal = s.journal ∧
    (boardAdd i t m s).inbox = s.inbox ∧ (boardAdd i t m s).freeCount = s.freeCount ∧
    (boardAdd i t m s).pending = s.pending := by
  unfold boardAdd; (repeat' split) <;> simp

/-- `markOp` changes only: board. -/
@[simp] theorem markOp_frame (i : Station) (t : Byte) (m : MarkSet) (s : State) :
    (markOp i t m s).resetN = s.resetN ∧ (markOp i t m s).straps = s.straps ∧ (markOp i t m s).pins = s.pins ∧
    (markOp i t m s).chan = s.chan ∧ (markOp i t m s).heater = s.heater ∧ (markOp i t m s).stirrer = s.stirrer ∧
    (markOp i t m s).scale = s.scale ∧ (markOp i t m s).engine = s.engine ∧ (markOp i t m s).slots = s.slots ∧
    (markOp i t m s).share = s.share ∧ (markOp i t m s).line = s.line ∧ (markOp i t m s).tx = s.tx ∧
    (markOp i t m s).handler = s.handler ∧ (markOp i t m s).journal = s.journal ∧
    (markOp i t m s).inbox = s.inbox ∧ (markOp i t m s).freeCount = s.freeCount ∧
    (markOp i t m s).pending = s.pending := by
  unfold markOp; (repeat' split) <;> simp

/-- `postMarks` changes only: inbox. -/
@[simp] theorem postMarks_frame (i : Station) (m : Option (Byte × MarkSet)) (s : State) :
    (postMarks i m s).resetN = s.resetN ∧ (postMarks i m s).straps = s.straps ∧
    (postMarks i m s).pins = s.pins ∧ (postMarks i m s).chan = s.chan ∧ (postMarks i m s).heater = s.heater ∧
    (postMarks i m s).stirrer = s.stirrer ∧ (postMarks i m s).scale = s.scale ∧
    (postMarks i m s).engine = s.engine ∧ (postMarks i m s).slots = s.slots ∧
    (postMarks i m s).share = s.share ∧ (postMarks i m s).line = s.line ∧ (postMarks i m s).tx = s.tx ∧
    (postMarks i m s).handler = s.handler ∧ (postMarks i m s).board = s.board ∧
    (postMarks i m s).journal = s.journal ∧ (postMarks i m s).freeCount = s.freeCount ∧
    (postMarks i m s).pending = s.pending := by
  unfold postMarks; (repeat' split) <;> simp

/-- `presenceMarksOp` changes only: board, inbox. -/
@[simp] theorem presenceMarksOp_frame (s : State) :
    (presenceMarksOp s).resetN = s.resetN ∧ (presenceMarksOp s).straps = s.straps ∧
    (presenceMarksOp s).pins = s.pins ∧ (presenceMarksOp s).chan = s.chan ∧
    (presenceMarksOp s).heater = s.heater ∧ (presenceMarksOp s).stirrer = s.stirrer ∧
    (presenceMarksOp s).scale = s.scale ∧ (presenceMarksOp s).engine = s.engine ∧
    (presenceMarksOp s).slots = s.slots ∧ (presenceMarksOp s).share = s.share ∧
    (presenceMarksOp s).line = s.line ∧ (presenceMarksOp s).tx = s.tx ∧
    (presenceMarksOp s).handler = s.handler ∧ (presenceMarksOp s).journal = s.journal ∧
    (presenceMarksOp s).freeCount = s.freeCount ∧ (presenceMarksOp s).pending = s.pending := by
  unfold presenceMarksOp; (repeat' split) <;> simp

/-- `answer` changes only: line, tx. -/
@[simp] theorem answer_frame (i : Station) (k : Nat) (r : ResultCode) (d : Byte) (l : List Byte) (s : State) :
    (answer i k r d l s).resetN = s.resetN ∧ (answer i k r d l s).straps = s.straps ∧
    (answer i k r d l s).pins = s.pins ∧ (answer i k r d l s).chan = s.chan ∧
    (answer i k r d l s).heater = s.heater ∧ (answer i k r d l s).stirrer = s.stirrer ∧
    (answer i k r d l s).scale = s.scale ∧ (answer i k r d l s).engine = s.engine ∧
    (answer i k r d l s).slots = s.slots ∧ (answer i k r d l s).share = s.share ∧
    (answer i k r d l s).handler = s.handler ∧ (answer i k r d l s).board = s.board ∧
    (answer i k r d l s).journal = s.journal ∧ (answer i k r d l s).inbox = s.inbox ∧
    (answer i k r d l s).freeCount = s.freeCount ∧ (answer i k r d l s).pending = s.pending := by
  unfold answer; simp

end Sys2Proof.Machine
end

