-- ==== Sys2Proof/Laws/State.lean ====
section
/-! SUPPORT. Laws/State.lean: for each basic update, the value of the field it writes; Laws/Frames.lean says what each
leaves unchanged. -/

namespace Sys2Proof.Machine

/-! ## When an operation acts -/

@[simp] theorem ran_of_high (op : State → State) (s : State) (h : s.resetN = true) : ran op s = .next (op s) := by
  simp [ran, h]

@[simp] theorem ran_of_low (op : State → State) (s : State) (h : s.resetN = false) : ran op s = .next s := by
  simp [ran, h]

/-- An operation of the running block always answers a next state. -/
theorem ran_next (op : State → State) (s : State) : ∃ t, ran op s = .next t := ⟨_, rfl⟩

/-! ## Events made -/

@[simp] theorem report_inbox (r : Report) (s : State) :
    (report r s).inbox = { s.inbox with reports := s.inbox.reports ++ [r] } := rfl

@[simp] theorem reportIf_true (r : Report) (s : State) : reportIf true r s = report r s := rfl

@[simp] theorem reportIf_false (r : Report) (s : State) : reportIf false r s = s := rfl

theorem reportIf_inbox (c : Bool) (r : Report) (s : State) :
    (reportIf c r s).inbox = { s.inbox with reports := s.inbox.reports ++ if c then [r] else [] } := by
  cases c <;> simp

@[simp] theorem deliver_inbox (c : Channels) (s : State) :
    (deliver c s).inbox = { s.inbox with
      heater := s.inbox.heater ++ [c.latest], stirrer := s.inbox.stirrer ++ [c.latest]
      scale := s.inbox.scale ++ [c.latest], engine := s.inbox.engine ++ [c.delivery] } := rfl

/-! ## Operations over channels as a unit sees them (R145) -/

@[simp] theorem seeing_chan (seen : Channels) (op : State → State) (s : State) : (seeing seen op s).chan = s.chan := rfl

/-- All but the channels is as the operation leaves it. -/
theorem seeing_eq (seen : Channels) (op : State → State) (s : State) :
    seeing seen op s = { op { s with chan := seen } with chan := s.chan } := rfl

@[simp] theorem withLatest_latest (c : Channels) (set : SampleSet) : (c.withLatest set).latest = set := rfl

@[simp] theorem asDelivered_latest (c : Channels) (d : Delivery) : (c.asDelivered d).latest = d.set := rfl

@[simp] theorem asDelivered_ranges (c : Channels) (d : Delivery) :
    (c.asDelivered d).wgtRange.present = d.wgtOut ∧ (c.asDelivered d).baseRange.present = d.baseOut ∧
      (c.asDelivered d).foodRange.present = d.foodOut := ⟨rfl, rfl, rfl⟩

/-- The engine takes a set in the channels as that set saw them. -/
theorem takeEngineSet_cons {s : State} {d : Delivery} {rest : List Delivery} (h : s.inbox.engine = d :: rest)
    (op : SampleSet → State → State) :
    takeEngineSet op s =
      seeing (s.chan.asDelivered d) (op d.set) { s with inbox := { s.inbox with engine := rest } } := by
  simp [takeEngineSet, h]

/-- The stirrer takes a set as the latest one. -/
theorem takeStirrerSet_cons {s : State} {set : SampleSet} {rest : List SampleSet} (h : s.inbox.stirrer = set :: rest)
    (op : SampleSet → State → State) :
    takeStirrerSet op s =
      seeing (s.chan.withLatest set) (op set) { s with inbox := { s.inbox with stirrer := rest } } := by
  simp [takeStirrerSet, h]

/-! ## Frames and RESTART (R166) -/

/-- A frame that no RESTART abandoned has its effect. -/
@[simp] theorem atFrameEnd_of_kept (op : State → State) (s : State) (h : s.line.abandoned = false) :
    atFrameEnd op s = op s := by simp [atFrameEnd, h]

@[simp] theorem atFrameEnd_of_abandoned (op : State → State) (s : State) (h : s.line.abandoned = true) :
    atFrameEnd op s = { s with line := { s.line with abandoned := false, verdict := .nothing } } := by
  simp [atFrameEnd, h]

/-- Without a RESTART pending no frame is abandoned. -/
@[simp] theorem whileReceiving_of_none (receiving : Bool) (op : State → State) (s : State)
    (h : s.handler.restartPending = false) : whileReceiving receiving op s = op s := by simp [whileReceiving, h]

@[simp] theorem nextFree_value (s : State) : s.nextFree.1 = Config.freeByte s.freeCount := rfl

@[simp] theorem nextFree_state (s : State) : s.nextFree.2 = { s with freeCount := s.freeCount + 1 } := rfl

/-! ## The journal -/

@[simp] theorem noteEvent_journal (e : StationEvent) (s : State) :
    (noteEvent e s).journal = s.journal.add (.station s.engine.tag s.engine.clock e) := rfl

@[simp] theorem mapOpen_entries (f : StepEntry → StepEntry) (s : State) :
    (mapOpen f s).journal.entries = s.journal.entries.map (JournalEntry.mapOpen f) := rfl

@[simp] theorem mapOpen_written (f : StepEntry → StepEntry) (s : State) :
    (mapOpen f s).journal.written = s.journal.written := rfl

@[simp] theorem add_written (j : Journal) (e : JournalEntry) : (j.add e).written = (j.written + 1) % 65536 := rfl

/-! ## The transmit slots -/

@[simp] theorem touchSent_onLine (kind : Fin 16) (s : State) :
    (touchSent kind s).line.onLine =
      s.line.onLine.map fun f => if f.frame.kind = kind then { f with changed := true } else f := rfl

theorem touchSent_line (kind : Fin 16) (s : State) :
    (touchSent kind s).line = { s.line with onLine := (touchSent kind s).line.onLine } := rfl

@[simp] theorem setEvictSlot_tx (e : Option StationSet) (s : State) :
    (setEvictSlot e s).tx = { s.tx with evict := e } := rfl

@[simp] theorem setClaimSlot_tx (c : Option ClaimFrame) (s : State) :
    (setClaimSlot c s).tx = { s.tx with claim := c } := rfl

@[simp] theorem setMarkSlot_tx (m : Option MarkFrame) (s : State) : (setMarkSlot m s).tx = { s.tx with mark := m } := rfl

@[simp] theorem setReplySlot_tx (r : Option Reply) (s : State) :
    (setReplySlot r s).tx = { s.tx with reply := r } := rfl

@[simp] theorem setEvictSlot_line (e : Option StationSet) (s : State) :
    (setEvictSlot e s).line = (touchSent 0 s).line := rfl

@[simp] theorem setClaimSlot_line (c : Option ClaimFrame) (s : State) :
    (setClaimSlot c s).line = (touchSent 1 s).line := rfl

@[simp] theorem setMarkSlot_line (m : Option MarkFrame) (s : State) :
    (setMarkSlot m s).line = (touchSent 3 s).line := rfl

@[simp] theorem setReplySlot_line (r : Option Reply) (s : State) :
    (setReplySlot r s).line = (touchSent 7 s).line := rfl

/-! ## The share table -/

@[simp] theorem setRow_share (i : Station) (r : Row) (s : State) :
    (setRow i r s).share = { s.share with rows := s.share.rows.set i.val r } := rfl

@[simp] theorem setOwnGrant_share (grant : Nat) (s : State) :
    (setOwnGrant grant s).share =
      { s.share with rows := s.share.rows.set s.own.val { s.ownRow with grant := grant } } := rfl

theorem own_of_straps {s t : State} (h : t.straps = s.straps) : t.own = s.own := by simp [State.own, h]

theorem budget_of_straps {s t : State} (h : t.straps = s.straps) : t.budget = s.budget := by simp [State.budget, h]

/-! ## The queue -/

/-- The front command is run with the rest of the queue. -/
theorem step_cons {s : State} {c : Instr} {rest : List Instr} (h : s.pending = c :: rest) :
    step s = exec c { s with pending := rest } := by simp [step, h]

/-- With no command waiting the block idles. -/
theorem step_nil {s : State} (h : s.pending = []) : step s = .next s := by simp [step, h]

end Sys2Proof.Machine
end

