-- ==== Sys2Proof/Laws/Ops.lean ====
section
/-! SUPPORT. Laws/Ops.lean: for each shared operation, what it gives, in one lemma each: rows, the evict mask and its slot,
usable units, want, the journal's bounds, grants, the entry to HOLD, a fault, a RESTART, the glitch filter, an
echo. -/

namespace Sys2Proof.Machine

/-! ## Rows -/

theorem setRow_at (i : Station) (r : Row) (s : State) : (setRow i r s).share.rows[i] = r := by simp

theorem setRow_at_ne {i j : Station} (h : i ≠ j) (r : Row) (s : State) :
    (setRow i r s).share.rows[j] = s.share.rows[j] := by
  have : i.val ≠ j.val := fun e => h (Fin.ext e)
  simp [Vector.getElem_set_ne, this]

theorem setOwnGrant_ownRow (grant : Nat) (s : State) :
    (setOwnGrant grant s).ownRow = { s.ownRow with grant := grant } := by
  simp [State.ownRow, State.own]

/-! ## The pending evict mask and the EVICT slot (R62) -/

/-- After the slot follows the mask it holds what the mask calls for. -/
theorem syncEvict_evict (s : State) : (syncEvict s).tx.evict = evictFor s.share.pendingEvict := by
  unfold syncEvict; split <;> simp_all

theorem syncEvict_tx (s : State) :
    (syncEvict s).tx = { s.tx with evict := evictFor s.share.pendingEvict } := by
  unfold syncEvict
  split
  · next h => cases hs : s.tx; simp_all
  · simp

theorem setPendingEvict_share (mask : StationSet) (s : State) :
    (setPendingEvict mask s).share = { s.share with pendingEvict := mask } := by
  simp [setPendingEvict]

theorem setPendingEvict_tx (mask : StationSet) (s : State) :
    (setPendingEvict mask s).tx = { s.tx with evict := evictFor mask } := by
  simp [setPendingEvict, syncEvict_tx]

/-! ## Usable units and want (R64, R108) -/

/-- Usable units take the value given, and a new one alone is handed to the heater. -/
theorem setUsable_eq (units : Nat) (s : State) :
    setUsable units s = { s with
      share := { s.share with usable := units }
      inbox := { s.inbox with usables := s.inbox.usables ++ if units = s.share.usable then [] else [units] } } := by
  unfold setUsable
  split
  · next h => subst h; simp
  · simp

theorem refreshUsable_usable (s : State) :
    (refreshUsable s).share.usable = usableUnits s.ownRow.grant s.tx.claim := by
  simp [refreshUsable, setUsable_eq]

/-- Usable units never exceed the grant. -/
theorem usableUnits_le (grant : Nat) (claim : Option ClaimFrame) : usableUnits grant claim ≤ grant := by
  unfold usableUnits
  split
  · exact Nat.le_refl _
  · split <;> omega

/-- The want takes the value given, and a new one alone is reported to the share unit. -/
theorem setWant_eq (want : Nat) (s : State) :
    setWant want s = { s with
      heater := { s.heater with want := want }
      inbox := { s.inbox with wants := s.inbox.wants ++ if want = s.heater.want then [] else [want] } } := by
  unfold setWant
  split
  · next h => subst h; simp
  · simp

/-- An off setting leaves the heater OFF (R103). -/
theorem heaterOff_regulating (s : State) : (heaterOff s).heater.regulating = false := by
  unfold heaterOff
  split
  · simp [setWant_eq, Heater.off]
  · simp_all

/-! ## The journal (R160, R163) -/

theorem removeOldestClosed_length_le (l : List JournalEntry) : (removeOldestClosed l).length ≤ l.length := by
  induction l with
  | nil => simp [removeOldestClosed]
  | cons e rest ih =>
    simp only [removeOldestClosed]
    split
    · simpa using ih
    · simp

/-- The list gets shorter when it holds a closed entry. -/
theorem removeOldestClosed_length {l : List JournalEntry} (h : ∃ e ∈ l, e.isOpen = false) :
    (removeOldestClosed l).length + 1 = l.length := by
  induction l with
  | nil => simp at h
  | cons e rest ih =>
    simp only [removeOldestClosed]
    split
    · next ho =>
      have : ∃ e ∈ rest, e.isOpen = false := by
        obtain ⟨x, hx, hc⟩ := h
        rcases List.mem_cons.mp hx with rfl | hx
        · simp [ho] at hc
        · exact ⟨x, hx, hc⟩
      simp [ih this]
    · simp

/-- No open entry is removed. -/
theorem removeOldestClosed_countP (l : List JournalEntry) :
    (removeOldestClosed l).countP JournalEntry.isOpen = l.countP JournalEntry.isOpen := by
  induction l with
  | nil => rfl
  | cons e rest ih =>
    simp only [removeOldestClosed]
    split
    · next ho => simp [List.countP_cons, ih]
    · next ho => simp [ho]

/-- A new entry is the newest. -/
@[simp] theorem add_getLast (j : Journal) (e : JournalEntry) : (j.add e).entries.getLast? = some e := by
  simp [Journal.add]

/-- An added entry counts as open exactly when it is. -/
theorem add_countP (j : Journal) (e : JournalEntry) :
    (j.add e).entries.countP JournalEntry.isOpen = j.entries.countP JournalEntry.isOpen + e.isOpen.toNat := by
  unfold Journal.add
  cases h : e.isOpen <;> split <;> simp [List.countP_append, removeOldestClosed_countP, h]

/-- With at most one open entry the journal stays within 32 entries. -/
theorem add_length_le {j : Journal} (hl : j.entries.length ≤ 32) (hc : j.entries.countP JournalEntry.isOpen ≤ 1)
    (e : JournalEntry) : (j.add e).entries.length ≤ 32 := by
  unfold Journal.add
  split
  · next h =>
    have : ∃ x ∈ j.entries, x.isOpen = false := by
      apply Classical.byContradiction
      intro hn
      have : j.entries.countP JournalEntry.isOpen = j.entries.length := by
        rw [List.countP_eq_length]
        intro a ha
        cases hh : a.isOpen
        · exact absurd ⟨a, ha, hh⟩ hn
        · rfl
      omega
    have := removeOldestClosed_length this
    simp; omega
  · simp; omega

/-- Writing a field of the open entry keeps the number of entries. -/
theorem mapOpen_length (f : StepEntry → StepEntry) (s : State) :
    (mapOpen f s).journal.entries.length = s.journal.entries.length := by simp

/-! ## Grants (R54, R55) -/

/-- The grant a CLAIM gives never takes the row above what it held or what the budget leaves. -/
theorem grantAfterClaim_le (budget others requested grant : Nat) :
    grantAfterClaim budget others requested grant ≤ max grant (budget - others) := by
  unfold grantAfterClaim; split <;> omega

/-- The grants of all rows are the grant of one row and those of the others. -/
theorem grantSum_split (rows : Vector Row 16) (i : Station) :
    grantSum rows = otherGrants rows i + rows[i].grant := by
  have key : ∀ l : List (Fin 16), l.Nodup →
      (l.map fun j => rows[j].grant).sum =
        (l.map fun j => if j = i then 0 else rows[j].grant).sum + if i ∈ l then rows[i].grant else 0 := by
    intro l
    induction l with
    | nil => simp
    | cons a l ih =>
      intro h
      have h' := List.nodup_cons.mp h
      simp only [List.map_cons, List.sum_cons, ih h'.2, List.mem_cons]
      by_cases e : a = i
      · subst e; simp [h'.1]; omega
      · have e' : ¬ i = a := fun h => e h.symm
        simp [e, e']; omega
  have := key (List.finRange 16) (List.nodup_finRange 16)
  simpa [grantSum, otherGrants] using this

/-- A replaced row leaves the grants of the others. -/
theorem otherGrants_set (rows : Vector Row 16) (i : Station) (r : Row) :
    otherGrants (rows.set i.val r) i = otherGrants rows i := by
  unfold otherGrants
  congr 1
  apply List.map_congr_left
  intro j _
  split
  · rfl
  · next h =>
    have : i.val ≠ j.val := fun e => h (Fin.ext e.symm)
    simp [Vector.getElem_set_ne, this]

/-- The grants after one row is replaced. -/
theorem grantSum_set (rows : Vector Row 16) (i : Station) (r : Row) :
    grantSum (rows.set i.val r) = otherGrants rows i + r.grant := by
  rw [grantSum_split _ i, otherGrants_set]; simp

/-! ## Frames and RESTART (R166) -/

/-- An operation while a frame may be under reception changes beyond its effect nothing but the abandoned flag. -/
theorem whileReceiving_eq (receiving : Bool) (op : State → State) (s : State) :
    ∃ abandoned, whileReceiving receiving op s = { op s with line := { (op s).line with abandoned := abandoned } } := by
  unfold whileReceiving
  split
  · exact ⟨true, rfl⟩
  · exact ⟨(op s).line.abandoned, rfl⟩

/-! ## The scale at a set (R29, R132) -/

/-- A set is weighed without a touch on the phase, its hold and the count of early sets. -/
theorem weighSet_phase (c : Scale) (set : SampleSet) (zeroCount cpk stirred : Nat) :
    (c.weighSet set zeroCount cpk stirred).phase = c.phase ∧
      (c.weighSet set zeroCount cpk stirred).suspended = c.suspended ∧
      (c.weighSet set zeroCount cpk stirred).early = c.early := by
  unfold Scale.weighSet
  split <;> exact ⟨rfl, rfl, rfl⟩

/-- A set that does not come after the entry in the engine moves the scale's own record and makes the weight test. -/
theorem scaleSetOp_early (set : SampleSet) (s : State) (h : 0 < s.scale.early) :
    let c := s.scale.weighSet set s.handler.zero s.handler.cpk s.stirrer.stirredLevel
    let gross := grams set.wgt s.handler.zero s.handler.cpk
    scaleSetOp set s =
      reportIf (hasWeight s.handler.cpk set.wgt && (s.scale.phase ≠ .none && 15000 < gross)) .overweight
        { s with scale := { c with early := s.scale.early - 1 } } := by
  intro c gross
  obtain ⟨phase, -, early⟩ : c.phase = s.scale.phase ∧ c.suspended = s.scale.suspended ∧ c.early = s.scale.early :=
    weighSet_phase s.scale set s.handler.zero s.handler.cpk s.stirrer.stirredLevel
  have unused : c.uses = false := by simp [Scale.uses, early]; omega
  have work : phaseSet set { s with scale := c } =
      reportIf (hasWeight s.handler.cpk set.wgt && (s.scale.phase ≠ .none && 15000 < gross)) .overweight
        { s with scale := c } := by
    cases hw : hasWeight s.handler.cpk set.wgt <;> simp [phaseSet, weightTest, hw, unused, phase, reportIf, gross]
  have later : ∀ (b : Bool) (u : State), countEarly (reportIf b .overweight u) = reportIf b .overweight (countEarly u) := by
    intro b u; cases b <;> rfl
  show countEarly (phaseSet set { s with scale := c }) = _
  rw [work, later, ← early]
  rfl

/-! ## Holds and faults -/

/-- HOLD is entered with its cause and a saved context. -/
theorem enterHold_engine (cause : HoldCause) (s : State) :
    (enterHold cause s).engine = { s.engine with
      state := .hold, causes := HoldSet.empty.add cause, saved := some (saveContext cause s) } := by
  simp [enterHold]

theorem holdSet_add_ne_empty (h : HoldSet) (cause : HoldCause) : h.add cause ≠ .empty := by
  cases cause <;> simp [HoldSet.add, HoldSet.empty]

/-- A latched fault leaves the engine in FAULT with its code and the heater OFF. -/
theorem latchFault_engine (code : FaultCode) (s : State) :
    (latchFault code s).engine.state = .fault ∧ (latchFault code s).engine.fault = some code := by
  simp [latchFault]

/-! ## RESTART -/

/-- A RESTART leaves the line controller as R166 restarts it and carries itself out. -/
theorem restart_line (s : State) :
    (restart s).line = s.line.restarted ∧ (restart s).handler.restartPending = false := by
  have handler : (restart s).handler = (restartBlocks s).handler := by simp [restart]
  exact ⟨by simp [restart, restartBlocks], by rw [handler]; rfl⟩

/-! ## The glitch filter -/

/-- Levels that each stand less than the filter width change nothing. -/
theorem glitchFilter_short (channel : Channel) (now level : Bool) (lengths : List Nat)
    (short : ∀ length ∈ lengths, length < filterWidth channel) : glitchFilter channel now level lengths = [] := by
  induction lengths generalizing level with
  | nil => rfl
  | cons stands later ih =>
    have shorter : ¬filterWidth channel ≤ stands := Nat.not_le.mpr (short stands (by simp))
    simpa [glitchFilter, shorter] using ih (!level) fun length h => short length (by simp [h])

/-! ## What a sender reads back -/

theorem cellEcho_unlike (i : Nat) {sent : Bool} {read : Option Bool} (unlike : read ≠ some sent) :
    cellEcho i sent read = if 1 ≤ i ∧ i ≤ 8 ∧ read = some false then .lost else .fault := by
  simp only [cellEcho, unlike, if_false]

/-- Cells that all read as sent are no echo fault and no lost arbitration. -/
theorem echoFrom_sound (i : Nat) (body : List Bool) (cells : List (Option Bool))
    (sound : ∀ j < body.length, (cells[j]?).join = body[j]?) : echoFrom i body cells = .same := by
  induction body generalizing i cells with
  | nil => rfl
  | cons sent body ih =>
    have first : cells.head?.join = some sent := by simpa [List.head?_eq_getElem?] using sound 0 (by simp)
    have later : echoFrom (i + 1) body cells.tail = .same :=
      ih _ _ fun j h => by simpa using sound (j + 1) (by simpa using h)
    simp [echoFrom, cellEcho, first, later]

/-- The first cell that does not read as sent decides. -/
theorem echoFrom_first (i : Nat) (body : List Bool) (cells : List (Option Bool)) (j : Nat) (inside : j < body.length)
    (sound : ∀ k < j, (cells[k]?).join = body[k]?) (unlike : (cells[j]?).join ≠ body[j]?) :
    echoFrom i body cells = if 1 ≤ i + j ∧ i + j ≤ 8 ∧ (cells[j]?).join = some false then .lost else .fault := by
  induction body generalizing i cells j with
  | nil => simp at inside
  | cons sent body ih =>
    cases j with
    | zero =>
      have differs : cells.head?.join ≠ some sent := by simpa [List.head?_eq_getElem?] using unlike
      have read : (cells[0]?).join = cells.head?.join := by rw [List.head?_eq_getElem?]
      rw [Nat.add_zero, read]
      have echo := cellEcho_unlike i differs
      by_cases field : 1 ≤ i ∧ i ≤ 8 ∧ cells.head?.join = some false
      · rw [if_pos field] at echo ⊢; simp only [echoFrom, echo]
      · rw [if_neg field] at echo ⊢; simp only [echoFrom, echo]
    | succ j =>
      have first : cells.head?.join = some sent := by simpa [List.head?_eq_getElem?] using sound 0 (by omega)
      have later := ih (i + 1) cells.tail j (by simpa using inside)
        (fun k h => by simpa using sound (k + 1) (by omega)) (by simpa using unlike)
      simpa [echoFrom, cellEcho, first, Nat.add_assoc, Nat.add_comm 1 j] using later

end Sys2Proof.Machine
end

