-- ==== Sys2Proof/Laws/PerInstr.lean ====
section
/-! SUPPORT. Laws/PerInstr.lean: the family RoundTrip: the frame of a well-formed command is the frame of that command alone,
and it is long enough for its kind and short enough for the line. -/

namespace Sys2Proof.Laws.RoundTrip

/-- The frame of a command carries that command and nothing else, within the lengths of Table 11-2 and R167. -/
def Statement (c : Instr) : Prop :=
  c.wellFormed = true → ∀ f, wireOf c = some f →
    commandOf f = c ∧ minPayload f.kind.val ≤ f.payload.length ∧ f.payload.length ≤ 20

/-- The two bytes of a 16-bit value joined again. -/
@[simp] theorem join_hi_lo (w : Word16) : joinBytes (hiByte w) (loByte w) = w := by
  apply BitVec.eq_of_getLsbD_eq
  intro i hi
  simp only [joinBytes, hiByte, loByte, BitVec.getLsbD_append, BitVec.getLsbD_extractLsb']
  by_cases h : i < 8
  · simp [h]
  · have h1 : i - 8 < 8 := by omega
    have h2 : 8 + (i - 8) = i := by omega
    simp [h, h1, h2]

/-- The four bytes of a 32-bit value joined again. -/
@[simp] theorem join_bytes32 (w : BitVec 32) :
    join32 (w.extractLsb' 24 8) (w.extractLsb' 16 8) (w.extractLsb' 8 8) (w.extractLsb' 0 8) = w := by
  apply BitVec.eq_of_getLsbD_eq
  intro i hi
  simp only [join32, BitVec.getLsbD_append, BitVec.getLsbD_extractLsb']
  by_cases h : i < 8
  · simp [h]
  · by_cases h' : i - 8 < 8
    · have : 8 + (i - 8) = i := by omega
      simp [h, h', this]
    · by_cases h'' : i - 8 - 8 < 8
      · have : 16 + (i - 8 - 8) = i := by omega
        simp [h, h', h'', this]
      · have h3 : i - 8 - 8 - 8 < 8 := by omega
        have : 24 + (i - 8 - 8 - 8) = i := by omega
        simp [h, h', h'', h3, this]

theorem reset (straps : Straps) (pins : PinLevels) : Statement (.reset straps pins) := fun _ _ h => nomatch h

theorem gateEnd (lidClosed : Bool) : Statement (.gateEnd lidClosed) := fun _ _ h => nomatch h

theorem secondBoundary (lidClosed : Bool) : Statement (.secondBoundary lidClosed) := fun _ _ h => nomatch h

theorem debouncedStateChange (lidClosed : Bool) : Statement (.debouncedStateChange lidClosed) := fun _ _ h => nomatch h

theorem rangeConditionChange (lidClosed : Bool) : Statement (.rangeConditionChange lidClosed) := fun _ _ h => nomatch h

theorem heaterSampleSet : Statement .heaterSampleSet := fun _ _ h => nomatch h

theorem stirrerSampleSet : Statement .stirrerSampleSet := fun _ _ h => nomatch h

theorem scaleSampleSet : Statement .scaleSampleSet := fun _ _ h => nomatch h

theorem engineSampleSet : Statement .engineSampleSet := fun _ _ h => nomatch h

theorem burstSlotEnd : Statement .burstSlotEnd := fun _ _ h => nomatch h

theorem rawBowlOpenHeater : Statement .rawBowlOpenHeater := fun _ _ h => nomatch h

theorem rawBowlOpenStirrer : Statement .rawBowlOpenStirrer := fun _ _ h => nomatch h

theorem rawBowlSeated : Statement .rawBowlSeated := fun _ _ h => nomatch h

theorem lockSensed : Statement .lockSensed := fun _ _ h => nomatch h

theorem lockDropped : Statement .lockDropped := fun _ _ h => nomatch h

theorem lockTimerExpiry : Statement .lockTimerExpiry := fun _ _ h => nomatch h

theorem spinupTimerExpiry : Statement .spinupTimerExpiry := fun _ _ h => nomatch h

theorem stall : Statement .stall := fun _ _ h => nomatch h

theorem stoppingEnd : Statement .stoppingEnd := fun _ _ h => nomatch h

theorem lockRelease : Statement .lockRelease := fun _ _ h => nomatch h

theorem intervalPhaseEnd : Statement .intervalPhaseEnd := fun _ _ h => nomatch h

theorem economy : Statement .economy := fun _ _ h => nomatch h

theorem durationEnd : Statement .durationEnd := fun _ _ h => nomatch h

theorem holdAboveReached : Statement .holdAboveReached := fun _ _ h => nomatch h

theorem dipReset : Statement .dipReset := fun _ _ h => nomatch h

theorem timeout : Statement .timeout := fun _ _ h => nomatch h

theorem bowlReport : Statement .bowlReport := fun _ _ h => nomatch h

theorem probeReport : Statement .probeReport := fun _ _ h => nomatch h

theorem scaleReport : Statement .scaleReport := fun _ _ h => nomatch h

theorem overweight : Statement .overweight := fun _ _ h => nomatch h

theorem sensor : Statement .sensor := fun _ _ h => nomatch h

theorem overtemp : Statement .overtemp := fun _ _ h => nomatch h

theorem lidReport : Statement .lidReport := fun _ _ h => nomatch h

theorem stallReport : Statement .stallReport := fun _ _ h => nomatch h

theorem lidSense : Statement .lidSense := fun _ _ h => nomatch h

theorem addSatisfied : Statement .addSatisfied := fun _ _ h => nomatch h

theorem lostPower : Statement .lostPower := fun _ _ h => nomatch h

theorem budgetMismatch : Statement .budgetMismatch := fun _ _ h => nomatch h

theorem barred : Statement .barred := fun _ _ h => nomatch h

theorem wantChange : Statement .wantChange := fun _ _ h => nomatch h

theorem usableUnits : Statement .usableUnits := fun _ _ h => nomatch h

theorem claimReviewTimer : Statement .claimReviewTimer := fun _ _ h => nomatch h

theorem silenceTimer (peer : Station) : Statement (.silenceTimer peer) := fun _ _ h => nomatch h

theorem tableReady : Statement .tableReady := fun _ _ h => nomatch h

theorem offer (rival : Option Byte) : Statement (.offer rival) := fun _ _ h => nomatch h

theorem echoFault : Statement .echoFault := fun _ _ h => nomatch h

theorem ownFrameTaken : Statement .ownFrameTaken := fun _ _ h => nomatch h

theorem ownFrameDropped : Statement .ownFrameDropped := fun _ _ h => nomatch h

theorem frameFoundBad (verdict : BadVerdict) : Statement (.frameFoundBad verdict) := fun _ _ h => nomatch h

theorem frameSpoiled : Statement .frameSpoiled := fun _ _ h => nomatch h

theorem ownSilence (receiving : Bool) : Statement (.ownSilence receiving) := fun _ _ h => nomatch h

theorem presenceTimer : Statement .presenceTimer := fun _ _ h => nomatch h

theorem listenWindow : Statement .listenWindow := fun _ _ h => nomatch h

theorem quietTimer : Statement .quietTimer := fun _ _ h => nomatch h

theorem lineFault (verdict : BadVerdict) : Statement (.lineFault verdict) := fun _ _ h => nomatch h

theorem claim (src : Station) (dst : Dest) (requested want : Byte) : Statement (.claim src dst requested want) := by
  intro _ f h
  simp [wireOf] at h
  subst h
  simp [commandOf, byteAt, minPayload]

theorem evict (src : Station) (dst : Dest) (mask : StationSet) : Statement (.evict src dst mask) := by
  intro _ f h
  simp [wireOf] at h
  subst h
  simp [commandOf, byteAt, minPayload]

theorem presence (src : Station) (dst : Dest) (states codes grant want : Byte) (marks : Option (Byte × MarkSet)) : Statement (.presence src dst states codes grant want marks) :=
  by
  intro _ f h
  cases marks <;> simp [wireOf] at h <;> subst h <;> simp [commandOf, byteAt, minPayload, bytes32]

theorem presenceMarks : Statement .presenceMarks := fun _ _ h => nomatch h

theorem mark (src : Station) (dst : Dest) (tag : Byte) (marks : MarkSet) : Statement (.mark src dst tag marks) := by
  intro _ f h
  simp [wireOf] at h
  subst h
  simp [commandOf, byteAt, minPayload, bytes32]

theorem setup (src : Station) (dst : Dest) (zero cpk : Word16) (probe : Byte) : Statement (.setup src dst zero cpk probe) :=
  by
  intro _ f h
  simp [wireOf] at h
  subst h
  simp [commandOf, byteAt, minPayload]

theorem stepLoad (src : Station) (dst : Dest) (slot index : Byte) (record : StepBytes) : Statement (.stepLoad src dst slot index record) :=
  by
  intro _ f h
  simp [wireOf] at h
  subst h
  refine ⟨?_, by simp [minPayload], by simp⟩
  refine congrArg (Instr.stepLoad src dst slot index) ?_
  apply Vector.ext
  intro i hi
  simp [byteAt, List.getD_eq_getElem?_getD]

theorem otherKindTaken (src : Station) (dst : Dest) (kind : Fin 16) : Statement (.otherKindTaken src dst kind) := by
  intro hw f h
  simp [wireOf] at h
  subst h
  simp only [Instr.wellFormed, Bool.or_eq_true, decide_eq_true_eq] at hw
  refine ⟨?_, ?_, ?_⟩
  · simp only [commandOf]
    split <;> first | rfl | omega
  · simp only [minPayload]
    split <;> first | omega | (split <;> simp)
  · split <;> simp

theorem start (src : Station) (dst : Dest) (args : Option StartArgs) : Statement (.start src dst args) := by
  intro _ f h
  cases args <;> simp [wireOf, commandFrame] at h <;> subst h <;>
    simp [commandOf, commandOfBytes, byteAt, minPayload, bytes32]

theorem pause (src : Station) (dst : Dest) : Statement (.pause src dst) := by
  intro _ f h
  simp [wireOf, commandFrame] at h
  subst h
  simp [commandOf, commandOfBytes, byteAt, minPayload]

theorem resume (src : Station) (dst : Dest) : Statement (.resume src dst) := by
  intro _ f h
  simp [wireOf, commandFrame] at h
  subst h
  simp [commandOf, commandOfBytes, byteAt, minPayload]

theorem abort (src : Station) (dst : Dest) : Statement (.abort src dst) := by
  intro _ f h
  simp [wireOf, commandFrame] at h
  subst h
  simp [commandOf, commandOfBytes, byteAt, minPayload]

theorem skip (src : Station) (dst : Dest) : Statement (.skip src dst) := by
  intro _ f h
  simp [wireOf, commandFrame] at h
  subst h
  simp [commandOf, commandOfBytes, byteAt, minPayload]

theorem confirm (src : Station) (dst : Dest) : Statement (.confirm src dst) := by
  intro _ f h
  simp [wireOf, commandFrame] at h
  subst h
  simp [commandOf, commandOfBytes, byteAt, minPayload]

theorem clear (src : Station) (dst : Dest) : Statement (.clear src dst) := by
  intro _ f h
  simp [wireOf, commandFrame] at h
  subst h
  simp [commandOf, commandOfBytes, byteAt, minPayload]

theorem tare (src : Station) (dst : Dest) : Statement (.tare src dst) := by
  intro _ f h
  simp [wireOf, commandFrame] at h
  subst h
  simp [commandOf, commandOfBytes, byteAt, minPayload]

theorem openSlot (src : Station) (dst : Dest) (args : Option (Byte × Byte)) : Statement (.openSlot src dst args) := by
  intro _ f h
  cases args <;> simp [wireOf, commandFrame] at h <;> subst h <;>
    simp [commandOf, commandOfBytes, byteAt, minPayload]

theorem closeSlot (src : Station) (dst : Dest) (args : Option (Byte × Word16)) : Statement (.closeSlot src dst args) :=
  by
  intro _ f h
  cases args <;> simp [wireOf, commandFrame] at h <;> subst h <;>
    simp [commandOf, commandOfBytes, byteAt, minPayload]

theorem restart (src : Station) (dst : Dest) : Statement (.restart src dst) := by
  intro _ f h
  simp [wireOf, commandFrame] at h
  subst h
  simp [commandOf, commandOfBytes, byteAt, minPayload]

theorem unknownCommand (src : Station) (dst : Dest) (code : Byte) : Statement (.unknownCommand src dst code) := by
  intro hw f h
  simp [wireOf, commandFrame] at h
  subst h
  refine ⟨?_, by simp [minPayload], by simp⟩
  simp only [Instr.wellFormed, Bool.or_eq_true, decide_eq_true_eq] at hw
  show commandOfBytes src dst [code] = _
  simp only [commandOfBytes, byteAt, List.getD_cons_zero]
  split <;> first | rfl | omega

theorem status (src : Station) (dst : Dest) : Statement (.status src dst) := by
  intro _ f h
  simp [wireOf, queryFrame] at h
  subst h
  simp [commandOf, queryOfBytes, byteAt, minPayload]

theorem sample (src : Station) (dst : Dest) : Statement (.sample src dst) := by
  intro _ f h
  simp [wireOf, queryFrame] at h
  subst h
  simp [commandOf, queryOfBytes, byteAt, minPayload]

theorem row (src : Station) (dst : Dest) (index : Byte) : Statement (.row src dst index) := by
  intro _ f h
  simp [wireOf, queryFrame] at h
  subst h
  simp [commandOf, queryOfBytes, byteAt, minPayload]

theorem slot (src : Station) (dst : Dest) (index : Byte) : Statement (.slot src dst index) := by
  intro _ f h
  simp [wireOf, queryFrame] at h
  subst h
  simp [commandOf, queryOfBytes, byteAt, minPayload]

theorem step (src : Station) (dst : Dest) (index : Byte) : Statement (.step src dst index) := by
  intro _ f h
  simp [wireOf, queryFrame] at h
  subst h
  simp [commandOf, queryOfBytes, byteAt, minPayload]

theorem journal (src : Station) (dst : Dest) (index : Byte) : Statement (.journal src dst index) := by
  intro _ f h
  simp [wireOf, queryFrame] at h
  subst h
  simp [commandOf, queryOfBytes, byteAt, minPayload]

theorem marks (src : Station) (dst : Dest) (index : Byte) : Statement (.marks src dst index) := by
  intro _ f h
  simp [wireOf, queryFrame] at h
  subst h
  simp [commandOf, queryOfBytes, byteAt, minPayload]

theorem unknownItem (src : Station) (dst : Dest) (item index : Byte) : Statement (.unknownItem src dst item index) := by
  intro hw f h
  simp [wireOf, queryFrame] at h
  subst h
  refine ⟨?_, by simp [minPayload], by simp⟩
  simp only [Instr.wellFormed, Bool.or_eq_true, decide_eq_true_eq] at hw
  show queryOfBytes src dst item index = _
  simp only [queryOfBytes]
  split <;> first | rfl | omega

theorem filteredLevelChange (channel : Channel) (level : Bool) : Statement (.filteredLevelChange channel level) :=
  fun _ _ h => nomatch h

theorem resetAsserted (straps : Straps) : Statement (.resetAsserted straps) := fun _ _ h => nomatch h

end Sys2Proof.Laws.RoundTrip
end

