-- ==== Sys2Proof/Tests/Witnesses.lean ====
section
/-! SUPPORT. Tests/Witnesses.lean: for each statement with hypotheses, concrete states and operands that meet the
hypotheses of each of its clauses, at the boundaries of their ranges. -/

namespace Sys2Proof.Tests

open Sys2Proof Sys2Proof.Machine

/-! ## States -/

/-- Station 0 in LIVE and IDLE after a SETUP from station 1, bowl seated, lid closed, station 2 PRESENT. -/
def live : State := { State.reset with
  line := { Line.reset with participation := .live, window := .stopped, ownSilence := .running, presence := .running }
  handler := ⟨some 1, 12000, 4000, false, false⟩
  pins := ⟨true, true, false, false, false, false, false⟩
  engine := { Engine.reset with state := .idle }
  chan := { Channels.reset ⟨true, true, false, false, false, false, false⟩ with
    latest := ⟨7, false, 18000, 490, 490, 0, true, true, false⟩ }
  share := { Share.reset 0 with
    rows := Vector.ofFn fun i => if i = 0 then ⟨.self, 8, 20, true, .stopped⟩
      else if i = 2 then ⟨.present, 4, 20, true, .running⟩ else Row.absent
    reviewTimer := .running
    usable := 8 } }

/-- The same station in LISTEN. -/
def listening : State := { live with line := Line.reset }

/-- A run of one record in slot 0, with tag 17 and the mask of stations 0 to 2. -/
def running (b : StepBytes) : State := { live with
  engine := { Engine.reset with state := .run, slot := some 0, tag := 17, mask := 7, phase := .counting }
  slots := Vector.ofFn fun k =>
    if k = 0 then ⟨.running, 1, Vector.ofFn fun i => if i = 0 then some b else none⟩ else Slot.reset }

/-- TIME from entry, 120 s, 85 °C, ramp 5, claim 15, hold 6, level 4 reverse, timeout 1500 under CONTINUE, mark 7. -/
def timeRec : StepBytes := #v[45, 85, 5, 15, 6, 4, 0, 0, 0, 120, 0, 0, 5, 220, 7, 42]

/-- TEMP, the record of section 11.2. -/
def tempRec : StepBytes := #v[77, 85, 5, 15, 6, 4, 0, 0, 0, 120, 0, 0, 5, 220, 7, 42]

/-- WEIGH 500 g, tolerance 10 g, heater without target, no mark. -/
def weighRec : StepBytes := #v[160, 0, 0, 0, 0, 1, 0, 0, 1, 244, 0, 10, 0, 0, 0, 0]

/-- MARK: mark 1 of station 2, timeout 1 s under FAULT. -/
def markRec : StepBytes := #v[192, 0, 0, 0, 0, 0, 0, 0, 2, 1, 0, 0, 0, 1, 0, 0]

/-- CONFIRM with no timeout, level 5, INTERVAL 10 and 20 s. -/
def confirmRec : StepBytes := #v[98, 0, 0, 0, 0, 5, 10, 20, 0, 0, 0, 0, 0, 0, 0, 0]

/-- HOLD_ABOVE 72 °C for 120 s with claim units 1. -/
def holdAboveRec : StepBytes := #v[128, 90, 0, 1, 0, 0, 0, 0, 0, 72, 0, 120, 0, 0, 0, 0]

/-- A sample set: boundary, counts of WGT, BASE, FOOD and TACH, all switches shown shut and the lid not locked. -/
def set (boundary : Bool) (wgt base food tach : Nat) : SampleSet :=
  ⟨8, boundary, wgt, base, food, tach, true, true, false⟩

/-- The station in HOLD with a saved context. -/
def held (b : StepBytes) (cause : HoldCause) : State :=
  let s := running b
  { s with engine := { s.engine with
    state := .hold, causes := HoldSet.empty.add cause, saved := some (saveContext cause s) } }

/-- The station in FAULT. -/
def faulted (code : FaultCode) : State := { live with engine := { live.engine with state := .fault, fault := some code } }

/-- Every report under way. -/
def reporting (s : State) : State := { s with inbox := { s.inbox with
  reports := [.bowl, .probe, .scale, .overweight, .sensor, .overtemp, .lid, .stall, .lidSense, .addSatisfied, .lostPower,
    .budgetMismatch, .barred] } }

/-! ## The machine and the measurement channels -/

theorem test_met_LowReset :
    let s := { live with resetN := false }
    s.resetN = false ∧ (∀ straps pins, Instr.gateEnd true ≠ .reset straps pins) ∧
      ∀ straps, Instr.gateEnd true ≠ .resetAsserted straps :=
  ⟨rfl, fun _ _ => Instr.noConfusion, fun _ => Instr.noConfusion⟩

theorem test_met_FromPanel : FromPanel 1 0 live := by unfold FromPanel Machine.Directed PeerFrame; decide

theorem test_met_Restart :
    let r : Reply := ⟨1, 2, .done, 0, []⟩
    let s := { live with handler.restartPending := true }
    (s.resetN = true ∧ s.line.participation = .live ∧ s.handler.restartPending = true) ∧
    -- its REPLY on the line, and waiting behind a PRESENCE; a frame under reception abandoned by neither
    (let u := { s with line.onLine := some ⟨.reply r, false, false⟩ };
      u.line.onLine = some ⟨.reply r, false, false⟩ ∧ u.handler.restartPending = true) ∧
    (let u := { s with tx.reply := some r, line.onLine := some ⟨.presence [], false, false⟩, line.spoil := 7 };
      u.handler.restartPending = true ∧ u.tx.reply.isSome = true ∧ u.line.ownSilence = .running ∧
      u.line.onLine = some ⟨.presence [], false, false⟩ ∧ u.line.abandoned = false ∧ 7 ≤ u.line.spoil) ∧
    (let u := { s with tx.reply := some r };
      u.tx.reply.isSome = true ∧ u.line.ownSilence = .running ∧ u.line.onLine = none ∧ u.line.finishing = none) := by
  decide

/-- Switch counts and range counts at 1 and 2, and counts at the edges of their ranges. -/
def switching : State := { live with chan := { live.chan with
  boundary := 4
  wgt := ⟨false, 1000⟩, base := ⟨true, 65535⟩, food := ⟨false, 1500⟩, tach := ⟨false, 65535⟩
  bowl := ⟨false, 2⟩, lid := ⟨true, 2⟩, lock := ⟨true, 2⟩
  wgtRange := ⟨true, 2⟩, baseRange := ⟨false, 2⟩, foodRange := ⟨true, 2⟩ } }

theorem test_met_Switches :
    switching.resetN = true ∧
    -- the debounced state: equal raw level, differing with counts 1 and 2
    (live.chan.bowl.level = live.pins.bowlSeated) ∧
    (let d : Debounce := ⟨false, 1⟩; d.level ≠ true ∧ d.count < 2) ∧
    (switching.chan.bowl.level ≠ switching.pins.bowlSeated ∧ 2 ≤ switching.chan.bowl.count) ∧
    (switching.chan.lid.level ≠ false ∧ 2 ≤ switching.chan.lid.count) ∧
    (switching.chan.lock.level ≠ switching.pins.lidLocked ∧ 2 ≤ switching.chan.lock.count) ∧
    -- the range condition: no count against it, one with counts 1 and 2
    (live.chan.wgtRange.present = decide (1000 ≤ live.chan.wgt.edges ∧ live.chan.wgt.edges ≤ 65000) ∧
      live.chan.wgtRange.count < 2) ∧
    (switching.chan.wgtRange.present = decide (1000 ≤ switching.chan.wgt.edges ∧ switching.chan.wgt.edges ≤ 65000) ∧
      2 ≤ switching.chan.wgtRange.count) ∧
    (switching.chan.foodRange.present = decide (300 ≤ switching.chan.food.edges ∧ switching.chan.food.edges ≤ 1500) ∧
      2 ≤ switching.chan.foodRange.count) ∧
    (let w : RangeWatch := ⟨false, 2⟩; w.present ≠ decide (300 ≤ 300 ∧ 300 ≤ 1500)) := by decide

theorem test_met_GateEndRows :
    switching.resetN = true ∧ switching.chan.boundary = 4 ∧
    (switching.chan.bowl.count = 2 ∧ switching.chan.bowl.level ≠ switching.pins.bowlSeated) ∧
    (switching.chan.lid.count = 2 ∧ switching.chan.lid.level ≠ false) ∧
    (switching.chan.lock.count = 2 ∧ switching.chan.lock.level ≠ switching.pins.lidLocked) ∧
    (switching.chan.wgtRange.count = 2 ∧ switching.chan.wgtRange.present = wgtInRange switching.chan.wgt.edges) ∧
    (switching.chan.baseRange.count = 2 ∧ switching.chan.baseRange.present = tempInRange switching.chan.base.edges) ∧
    (switching.chan.foodRange.count = 2 ∧ switching.chan.foodRange.present = tempInRange switching.chan.food.edges) := by
  decide

theorem test_met_RisingEdges :
    switching.resetN = true ∧ switching.chan.wgt.level = false ∧ switching.chan.tach.level = false ∧
      switching.chan.tach.edges = 65535 ∧ switching.chan.base.level = true ∧
    -- the filter widths and one nanosecond less
    (∀ p ∈ [(Channel.wgt, 1000), (.base, 20000), (.food, 20000), (.tach, 100000)],
      glitchFilter p.1 false true [p.2, p.2] = [.filteredLevelChange p.1 true, .filteredLevelChange p.1 false] ∧
      glitchFilter p.1 false true [p.2 - 1, p.2 - 1] = []) := by decide

/-! ## Heater -/

/-- A REGULATING heater on a ramp from 22.50 °C to 85 °C with the given set under way. -/
def heating (x : SampleSet) : State := { running timeRec with
  heater := { Heater.reset with
    regulating := true, target := 85, ramp := 5, claimUnits := 15, holdUnits := 6, approach := some .heating
    rampBase := some 90, elapsed := 5, targetNow := 91, want := 15, usable := 8, applied := 3, onSlots := 8
    periodRunning := true, slotPos := 23 }
  inbox := { Inbox.reset with heater := [x], usables := [2] } }

theorem test_met_SetpointAndOff :
    let s := heating (set true 18000 490 490 0)
    live.heater.regulating = false ∧ s.heater.regulating = true ∧
    -- without and with a ramp base
    (heaterSetpoint ((readRecord weighRec).getD ⟨.confirm, false, 0, 0, 0, 0, ⟨0, .forward, .continuous, 0, 0⟩, 0, none, 0⟩)
      live).heater.rampBase = none ∧
    (heaterSetpoint ⟨.confirm, false, 85, 5, 15, 6, ⟨0, .forward, .continuous, 0, 0⟩, 0, none, 0⟩ live).heater.rampBase =
      some 90 ∧
    -- a running period, one cut, and none
    (s.heater.cut = false ∧ s.heater.periodRunning = true) ∧ ({ s with heater.cut := true }).heater.cut = true ∧
    live.heater.periodRunning = false := by decide

theorem test_met_OvertemperatureTest :
    (∀ base ∈ [1319, 1320], let x := set false 18000 base 490 0; let s := heating x
      s.resetN = true ∧ s.inbox.heater = x :: [] ∧ x.boundary = false ∧ (1320 ≤ x.base ∨ x.base < 1320)) := by decide

theorem test_met_SecondBoundary :
    let x := set true 18000 490 490 0; let s := heating x; let off := { s with heater.regulating := false }
    let open_ := { s with pins.bowlSeated := false }; let due := { s with heater.entrySample := some 8 }
    (s.resetN = true ∧ s.inbox.heater = x :: [] ∧ x.boundary = true) ∧
    -- uncut and regulating; cut; off
    ((heaterSetOp x s).heater.cut = false ∧ s.heater.regulating = true) ∧
    (heaterSetOp x open_).heater.cut = true ∧ off.heater.regulating = false ∧
    -- a counted ramp second, and one of each reason not to count
    (s.heater.entrySample ≠ some x.seq ∧ s.heater.rampBase = some 90 ∧ s.heater.targetNow < 4 * s.heater.target) ∧
    due.heater.entrySample = some x.seq ∧ (live.heater.rampBase = none ∧ 4 * live.heater.target ≤ live.heater.targetNow) := by
  decide

theorem test_met_DemandAndOnSlots :
    (0 = 0 ∨ 299 < 300) ∧ (1500 < 1501) ∧ (((90 : Nat) : Int) ≤ ((490 : Nat) : Int) - 400) ∧
    (85 ≠ 0 ∧ 300 ≤ 490 ∧ 490 ≤ 1500 ∧ ((122 : Nat) : Int) = ((490 : Nat) : Int) - 400 + (32 : Nat) ∧ 32 ≤ 32) ∧
    (((121 : Nat) : Int) = ((490 : Nat) : Int) - 400 + (31 : Nat) ∧ 31 < 32) ∧ 0 < 10 := by decide

/-- A heater at its target of 85 °C, by the economy state and count and the BASE count of the boundary under way. -/
def nearing (e : Economy) (count base : Nat) : State :=
  let s := heating (set true 18000 base 490 0)
  { s with heater := { s.heater with targetNow := 340, economy := e, economyCount := count } }

theorem test_met_Economy :
    (∀ p ∈ [(Economy.full, 29, 736), (.full, 28, 736), (.full, 29, 735), (.economy, 0, 723), (.economy, 0, 724)],
      let s := nearing p.1 p.2.1 p.2.2; let x := set true 18000 p.2.2 490 0
      s.resetN = true ∧ s.inbox.heater = x :: [] ∧ x.boundary = true ∧ s.heater.regulating = true ∧
      s.heater.entrySample ≠ some x.seq ∧ s.heater.target ≠ 0 ∧ s.heater.holdUnits < s.heater.claimUnits ∧
      300 ≤ x.base ∧ x.base ≤ 1500 ∧ s.heater.economy = p.1) ∧
    4 * ((85 : Nat) : Int) - 4 ≤ ((736 : Nat) : Int) - 400 ∧ ((735 : Nat) : Int) - 400 < 4 * ((85 : Nat) : Int) - 4 ∧
    ((723 : Nat) : Int) - 400 < 4 * ((85 : Nat) : Int) - 16 ∧ 4 * ((85 : Nat) : Int) - 16 ≤ ((724 : Nat) : Int) - 400 := by
  decide

theorem test_met_CutsAndSlots :
    let s := heating (set true 18000 490 490 0)
    s.resetN = true ∧ s.inbox.usables = 2 :: [] ∧ 2 < s.heater.applied ∧ s.heater.periodRunning = true ∧
      s.heater.slotPos < 24 := by decide

/-! ## Stirrer -/

/-- A stirrer at level 5 REVERSE with the lock DRIVEN and locked, in a given state, and the given set under way. -/
def stirring (state : StirrerState) (x : SampleSet) : State := { live with
  pins := { live.pins with lidLocked := true }
  stirrer := { Stirrer.reset with
    state := state, setting := ⟨5, .reverse, .interval, 10, 20⟩, patternPos := some ⟨true, 1⟩, drivenLevel := 5
    drivenDirection := .reverse, duty := 40, lockDriven := true, stallCount := 9, zeroCount := 2, releaseCount := 4
    lockTimer := .running, spinTimer := .running }
  inbox := { Inbox.reset with stirrer := [x] } }

theorem test_met_LevelBand :
    (95 * levelSpeed 5 ≤ 100 * (10 * 21) ∧ 100 * (10 * 21) ≤ 105 * levelSpeed 5) ∧
    (95 * levelSpeed 5 ≤ 100 * (10 * 23) ∧ 100 * (10 * 23) ≤ 105 * levelSpeed 5) := by decide

theorem test_met_SpeedIsRegulated :
    (∀ p ∈ [(StirrerState.spinup, 0, false), (.spinup, 20, true), (.running, 21, false), (.running, 24, true),
        (.running, 7, false)],
      let x := set p.2.2 18000 490 490 p.2.1; let s := { stirring p.1 x with stirrer.patternPos := some ⟨true, 2⟩ }
      s.resetN = true ∧ s.inbox.stirrer = x :: [] ∧ (s.stirrer.patternPos = some ⟨true, 2⟩ ∧ 1 < 2) ∧
      (s.stirrer.state = .spinup ∨ s.stirrer.state = .running) ∧
      ¬(s.stirrer.state = .running ∧ 100 * (10 * x.tach) < 30 * levelSpeed s.stirrer.drivenLevel ∧
        9 ≤ s.stirrer.stallCount)) ∧
    (100 * (10 * 20) < 95 * levelSpeed 5) ∧ (105 * levelSpeed 5 < 100 * (10 * 24)) := by decide

theorem test_met_TenSlowSets :
    let x := set false 18000 490 490 6; let s := stirring .running x
    s.resetN = true ∧ s.inbox.stirrer = x :: [] ∧ s.stirrer.state = .running ∧
      100 * (10 * x.tach) < 30 * levelSpeed s.stirrer.drivenLevel ∧ s.stirrer.stallCount = 9 := by decide

/-- A stirrer in STOPPED with a setting of the given level. -/
def stopped (level : Nat) : State := { live with stirrer.setting := ⟨level, .forward, .continuous, 0, 0⟩ }

theorem test_met_StoppedStirrer :
    (∀ level ∈ [0, 1, 4, 5, 12], (stopped level).stirrer.state = .stopped ∧ (stopped level).stirrer.suspended = false ∧
      (stopped level).pins.bowlSeated = true ∧ (stopped level).stirrer.lockDriven = false ∧
      (stopped level).pins.lidLocked = false ∧ (stopped level).chan.latest.lid = true) ∧
    -- items 1 to 3
    ({ stopped 5 with stirrer.suspended := true }).stirrer.suspended = true ∧
    (let s := { stopped 4 with stirrer.lockDriven := true };
      s.stirrer.setting.level < 5 ∧ s.stirrer.lockDriven = true) ∧
    ({ stopped 5 with pins.bowlSeated := false }).pins.bowlSeated = false ∧
    -- a lock request with the lid open, and one that finds the bolt home
    ({ stopped 5 with chan.latest.lid := false }).chan.latest.lid = false ∧
    (let s := { stopped 5 with pins.lidLocked := true }; 5 ≤ s.stirrer.setting.level ∧ s.pins.lidLocked = true ∧
      (s.stirrer.lockDriven = true ∨ s.chan.latest.lid = true) ∧ ∀ n, s.stirrer.patternPos ≠ some ⟨false, n⟩) ∧
    ∃ n, ({ stopped 4 with stirrer.patternPos := some ⟨false, 3⟩ }).stirrer.patternPos = some ⟨false, n⟩ := by
  refine ⟨by decide, by decide, by decide, by decide, by decide, ⟨by decide, by decide, by decide, ?_⟩, 3, rfl⟩
  intro n h; cases h

theorem test_met_SettingIsTaken :
    let x := set false 18000 490 490 22; let s := stirring .running x
    (stopped 5).stirrer.state = .stopped ∧ s.stirrer.state ≠ .stopped ∧
    (stirring .stopping x).stirrer.state = .stopping ∧
    (stirring .locking x).stirrer.state = .locking ∧ s.stirrer.state.moving = true ∧
    -- items 1 to 3
    (let y : Setting := ⟨5, .forward, .continuous, 0, 0⟩; y.direction ≠ s.stirrer.drivenDirection) ∧
    (let u := { s with stirrer.lockDriven := false }; 5 ≤ 5 ∧ u.stirrer.lockDriven = false) ∧
    (4 < 5 ∧ s.stirrer.lockDriven = true) ∧
    -- items 4 and 5
    (let y : Setting := ⟨12, .reverse, .continuous, 0, 0⟩; y.level ≠ 0 ∧ y.direction = s.stirrer.drivenDirection ∧
      (5 ≤ y.level ↔ s.stirrer.lockDriven = true) ∧ y.level ≠ s.stirrer.drivenLevel) ∧
    (stirring .intervalOff x).stirrer.state = .intervalOff ∧
    (s.stirrer.state ≠ .intervalOff ∧ 5 = s.stirrer.drivenLevel) := by decide

theorem test_met_Standstill :
    (∀ p ∈ [(0, 0), (0, 1), (0, 2), (1, 2)], let x := set false 18000 490 490 p.1;
      let s := { stirring .stopping x with stirrer.zeroCount := p.2 };
      s.resetN = true ∧ s.inbox.stirrer = x :: [] ∧ s.stirrer.state = .stopping ∧ s.stirrer.zeroCount = p.2) ∧
    (∀ p ∈ [(0, 0), (0, 3), (0, 4), (1, 4)], let x := set false 18000 490 490 p.1;
      let s := { stirring .stopped x with stirrer.setting.level := 4, stirrer.releaseCount := p.2 };
      s.resetN = true ∧ s.inbox.stirrer = x :: [] ∧ s.stirrer.state = .stopped ∧ s.stirrer.lockDriven = true ∧
      s.stirrer.setting.level < 5 ∧ s.stirrer.releaseCount = p.2) ∧
    -- a set whose lid switches contradict each other, and LOCKING
    (let x := { set false 18000 490 490 0 with lid := false, lock := true };
      x.lid = false ∧ x.lock = true ∧ (stirring .locking x).inbox.stirrer = x :: [] ∧
      (stirring .locking x).stirrer.state = .locking ∧ (stirring .locking x).stirrer.lidSense = false) ∧
    (let x := set false 18000 490 490 0; 5 ≤ (stirring .stopped x).stirrer.setting.level ∧
      (stopped 4).stirrer.lockDriven = false ∧ (stirring .intervalOff x).stirrer.state = .intervalOff ∧
      x.boundary = false) := by decide

theorem test_met_IntervalPhases :
    let x := set true 18000 490 490 7
    (∀ p ∈ [(StirrerState.spinup, true), (.running, true), (.intervalOff, false)],
      let s := { stirring p.1 x with stirrer.patternPos := some ⟨p.2, 1⟩ }
      s.resetN = true ∧ s.inbox.stirrer = x :: [] ∧ x.boundary = true ∧ s.stirrer.patternPos = some ⟨p.2, 1⟩ ∧
      ¬(s.stirrer.state = .running ∧ 100 * (10 * x.tach) < 30 * levelSpeed s.stirrer.drivenLevel ∧
        9 ≤ s.stirrer.stallCount) ∧ s.stirrer.state = p.1) ∧
    (let s := { stirring .intervalOff x with stirrer.patternPos := some ⟨false, 2⟩ };
      1 < 2 ∧ s.stirrer.patternPos = some ⟨false, 2⟩ ∧ s.stirrer.state = .intervalOff) := by decide

theorem test_met_PinEvents :
    let x := set false 18000 490 490 22; let s := stirring .running x; let l := stirring .locking x
    s.resetN = true ∧ s.stirrer.state.moving = true ∧ live.stirrer.state.moving = false ∧
    (let u := { live with pins.bowlSeated := false }; u.pins.bowlSeated = false ∧ u.stirrer.state = .stopped) ∧
    (let u := { s with pins.bowlSeated := false }; u.pins.bowlSeated = false ∧ u.stirrer.state ≠ .stopped) ∧
    (s.pins.lidLocked = true ∧ s.stirrer.lockDriven = true ∧ s.stirrer.state ≠ .locking ∧ 5 ≤ s.stirrer.setting.level) ∧
    (let u := { live with pins.lidLocked := true }; u.pins.lidLocked = true ∧ u.stirrer.lockDriven = false) ∧
    (l.stirrer.state = .locking ∧ l.pins.bowlSeated = true ∧ l.stirrer.patternPos = some ⟨true, 1⟩ ∧
      l.stirrer.lockTimer = .running) ∧
    (let u := stirring .spinup x; u.stirrer.state = .spinup ∧ u.stirrer.spinTimer = .running) := by decide

/-! ## Scale -/

/-- A scale with a history and a phase, and a set of the given WGT count under way. -/
def weighing (phase : WeighPhase) (history : List Int) (wgt : Nat) : State := { running weighRec with
  scale := { Scale.reset with phase := phase, history := history, target := 500, tolerance := 10, reference := 18000 }
  inbox := { Inbox.reset with scale := [set false wgt 490 490 0] } }

theorem test_met_ScaleWeighs :
    (∀ p ∈ [([], 999), ([1, 1, 1, 1], 1000), ([1500, 1500, 1500, 1500, 1500], 65000), ([], 65001)],
      let s := weighing .none p.1 p.2
      s.resetN = true ∧ s.inbox.scale = set false p.2 490 490 0 :: [] ∧ s.scale.phase = .none ∧ s.handler.cpk ≠ 0 ∧
      s.scale.history.length ≤ 5) ∧
    ({ weighing .none [] 1000 with handler.cpk := 0 }).handler.cpk = 0 := by decide

theorem test_met_WeighPhases :
    let h : List Int := [1500, 1500, 1500, 1500, 1500]; let x := set false 18000 490 490 0
    let after := fun s : State => (scaleSetOp x { s with inbox.scale := [] }).scale
    -- suspended; not come after the entry
    ({ weighing .add h 18000 with scale.suspended := true }).scale.suspended = true ∧
    0 < ({ weighing .add h 18000 with scale.early := 1 }).scale.early ∧
    (∀ phase ∈ [WeighPhase.none, .settle, .add], let s := weighing phase h 18000;
      s.resetN = true ∧ s.inbox.scale = x :: [] ∧ s.scale.early = 0 ∧ s.scale.suspended = false ∧ s.handler.cpk ≠ 0 ∧
      1000 ≤ x.wgt ∧ x.wgt ≤ 65000 ∧ (after s).steady = true ∧ s.scale.reReference = none ∧ s.scale.phase = phase ∧
      s.scale.reported = false) ∧
    (let s := { weighing .settle h 18000 with scale.reReference := some 341 };
      (after s).steady = true ∧ s.scale.reReference = some 341 ∧ (after s).added = some 341) ∧
    (after (weighing .add [] 18000)).steady = false := by decide

/-! ## Step engine -/

/-- A set delivered with no range condition present. -/
def delivered (x : SampleSet) : Delivery := ⟨x, false, false, false⟩

/-- A state with a sample set under way for the engine. -/
def sampled (x : SampleSet) (s : State) : State := { s with inbox := { s.inbox with engine := [delivered x] } }

/-- The state as the engine sees it when it takes that set. -/
def seen (x : SampleSet) (s : State) : State :=
  { s with chan := s.chan.asDelivered (delivered x), inbox.engine := [] }

/-- The step of a state that runs one. -/
def stepOf (s : State) : StepRec :=
  (curStep s).getD ⟨.confirm, false, 0, 0, 0, 0, ⟨0, .forward, .continuous, 0, 0⟩, 0, none, 0⟩

theorem test_met_EngineCounts :
    let x := set true 18000 490 490 0
    (let s := sampled x (running timeRec);
      s.resetN = true ∧ s.inbox.engine = delivered x :: [] ∧ s.engine.state = .run ∧ curStep s = some (stepOf s) ∧
      endMet (stepOf s) (engineProgress (stepOf s) x (seen x s)) = false ∧
      min 65535 (s.engine.timeout + 1) ≠ (stepOf s).timeout) ∧
    (let s := sampled x { running holdAboveRec with engine.phase := .accumulating };
      curStep s = some (stepOf s) ∧ (stepOf s).kind = .holdAbove 72 120 ∧ s.engine.phase = .accumulating ∧
      (stepOf s).timeout = 0 ∧
      endMet (stepOf s) (engineProgress (stepOf s) x (seen x s)) = false) ∧
    (sampled x (held timeRec .pause)).engine.state = .hold ∧ (sampled x live).engine.state.active = false := by decide

theorem test_met_Thresholds :
    (let s := live; let x := set true 18000 688 299 0
      s.chan.baseRange.present = false ∧ 300 ≤ x.base ∧ 4 * ((72 : Nat) : Int) ≤ ((688 : Nat) : Int) - 400) ∧
    ((687 : Nat) : Int) - 400 < 4 * ((72 : Nat) : Int) ∧
    (let s := { live with handler.probe := true }; s.handler.probe = true ∧ 299 < 300 ∧ 1500 < 1501) ∧
    ({ live.engine with dip := 9 }).dip < 10 ∧ 10 ≤ ({ live.engine with dip := 10 }).dip := by decide

theorem test_met_StepEntry :
    (∀ s ∈ [running timeRec, running tempRec, running weighRec, running markRec, running confirmRec,
        running holdAboveRec],
      s.engine.state = .run ∧ curStep s = some (stepOf s) ∧ standingCauses s (stepOf s) = []) ∧
    (stepOf (running confirmRec)).setting.pattern = .interval ∧
    (stepOf (running timeRec)).setting.pattern = .continuous ∧
    (stepOf (running weighRec)).kind = .weigh 500 10 := by decide

/-- The standing conditions of the step of a state, as the statement lists them. -/
def standingList (s : State) : List HoldCause :=
  let x := s.chan.latest
  (if x.bowl = false then [.bowl] else []) ++
    (if (stepOf s).isHoldAbove = true ∧ s.handler.probe = true ∧ s.chan.foodRange.present = true then [.probe]
      else []) ++
    if (stepOf s).isWeigh = true ∧ (s.chan.wgtRange.present = true ∨ (s.handler.cpk ≠ 0 ∧ 1000 ≤ x.wgt ∧
      x.wgt ≤ 65000 ∧ 15000 < (((x.wgt : Int) - s.handler.zero) * 1000).tdiv s.handler.cpk)) then [.scale] else []

theorem test_met_StandingCondition :
    ∀ p ∈ [({ running timeRec with chan.latest.bowl := false }, [HoldCause.bowl]),
        ({ running holdAboveRec with handler.probe := true, chan.foodRange := ⟨true, 0⟩ }, [.probe]),
        ({ running weighRec with chan.wgtRange := ⟨true, 0⟩, chan.latest.bowl := false }, [.bowl, .scale]),
        ({ running weighRec with handler.cpk := 1000, chan.latest.wgt := 27001 }, [.scale])],
      p.1.engine.state = .run ∧ curStep p.1 = some (stepOf p.1) ∧ standingList p.1 = p.2 ∧ p.2 ≠ [] := by decide

theorem test_met_StepExit :
    (let s := running timeRec; s.engine.slot = some 0 ∧ s.slots[0].count ≤ s.engine.index + 1 ∧
      (stepOf s).raise = some 7) ∧ (stepOf (running weighRec)).raise = none ∧
    (let s := { running timeRec with slots := Vector.ofFn fun _ => ⟨.running, 2, Vector.ofFn fun _ => some timeRec⟩ };
      s.engine.slot = some 0 ∧ s.engine.index + 1 < s.slots[0].count) := by decide

theorem test_met_EndConditions :
    let x := set true 18000 690 490 0
    -- TIME and TEMP
    (∀ s ∈ [sampled x { running timeRec with engine.duration := 119 },
        sampled x { running tempRec with engine.duration := 119 }],
      s.resetN = true ∧ s.engine.state = .run ∧ curStep s = some (stepOf s) ∧ s.inbox.engine = delivered x :: [] ∧
      x.boundary = true ∧ s.engine.phase = .counting ∧ s.engine.duration < 65535 ∧
      ((stepOf s).kind = .temp (s.engine.duration + 1) ∨ (stepOf s).kind = .time false (s.engine.duration + 1))) ∧
    -- TEMP with no time at the target
    (let y := set false 18000 736 490 0;
      let s := sampled y { running (tempRec.set 9 0) with engine.phase := .approaching, engine.approach := some .heating };
      curStep s = some (stepOf s) ∧ (stepOf s).kind = .temp 0 ∧ s.engine.phase = .approaching ∧
      s.engine.atTemp = false ∧ s.engine.duration = 0 ∧
      targetReached s.engine.approach (stepOf s).target y.base = true) ∧
    -- HOLD_ABOVE
    (let s := sampled x { running holdAboveRec with engine.phase := .accumulating, engine.accumulator := 119 };
      (stepOf s).kind = .holdAbove 72 120 ∧ s.engine.phase = .accumulating ∧ s.engine.accumulator + 1 = 120 ∧
      holdAboveCount (seen x s) x = some 690 ∧ 4 * ((72 : Nat) : Int) ≤ ((690 : Nat) : Int) - 400) ∧
    -- MARK
    (let s := sampled x { running markRec with board.rows := Vector.ofFn fun i => if i = 2 then 2 else 0 };
      (stepOf s).kind = .mark 2 1 ∧ s.board.rows[(2 : Station)].getLsbD (1 : Fin 32).val = true) ∧
    -- WEIGH
    (let s := reporting { running weighRec with scale.phase := .add, scale.reported := true };
      .addSatisfied ∈ s.inbox.reports ∧ (stepOf s).isWeigh = true ∧ s.scale.phase = .add ∧
      s.scale.suspended = false ∧ s.scale.reported = true) ∧
    (let s := reporting (running weighRec); .addSatisfied ∈ s.inbox.reports ∧ s.scale.phase ≠ .add) := by decide

theorem test_met_DipAndTimeout :
    let x := set true 18000 687 490 0
    (let s := sampled x { running holdAboveRec with engine.phase := .accumulating, engine.dip := 10 };
      s.resetN = true ∧ s.inbox.engine = delivered x :: [] ∧ curStep s = some (stepOf s) ∧ s.engine.state = .run ∧
      x.boundary = true ∧ (stepOf s).kind = .holdAbove 72 120 ∧ 0 < 120 ∧ (stepOf s).timeout = 0 ∧
      s.engine.phase = .accumulating ∧ s.engine.dip = 10 ∧ holdAboveCount (seen x s) x = some 687 ∧
      ((687 : Nat) : Int) - 400 < 4 * ((72 : Nat) : Int)) ∧
    (∀ p ∈ [(timeRec, 1499, true), (markRec, 0, false)], let s := sampled x { running p.1 with engine.timeout := p.2.1 };
      curStep s = some (stepOf s) ∧ s.engine.state = .run ∧ s.engine.timeout + 1 = (stepOf s).timeout ∧
      (stepOf s).timeout ≤ 65535 ∧ (stepOf s).continues = p.2.2 ∧
      endMet (stepOf s) (engineProgress (stepOf s) x (seen x s)) = false) := by decide

/-! ## Holds and faults -/

theorem test_met_HoldReportInRun :
    (∀ s ∈ [reporting { running weighRec with handler.probe := true },
        reporting { running holdAboveRec with handler.probe := true }],
      s.resetN = true ∧ s.engine.state = .run ∧ curStep s = some (stepOf s) ∧
      (s.handler.probe && (stepOf s).isHoldAbove) = (stepOf s).isHoldAbove ∧
      ∀ r ∈ [Report.bowl, .lid, .stall, .probe, .scale, .overweight, .lostPower], r ∈ s.inbox.reports) ∧
    (stepOf (running weighRec)).isWeigh = true ∧ (stepOf (running weighRec)).isHoldAbove = false ∧
    (stepOf (running holdAboveRec)).isHoldAbove = true ∧ (stepOf (running holdAboveRec)).isWeigh = false ∧
    decide (0 < (stepOf (running holdAboveRec)).claimUnits) = true ∧
    decide (0 < (stepOf (running weighRec)).claimUnits) = false := by decide

theorem test_met_HoldReportOutside :
    (∀ s ∈ [held timeRec .pause, held timeRec .bowl], s.resetN = true ∧ s.engine.state = .hold) ∧
    (held timeRec .bowl).engine.causes.has .bowl = true ∧ (held timeRec .pause).engine.causes.has .bowl = false ∧
    live.engine.state.active = false ∧
    ∀ r ∈ [Report.bowl, .lid, .stall, .probe, .scale, .overweight, .lostPower, .addSatisfied],
      r ∈ (reporting live).inbox.reports := by decide

/-- In HOLD too, for any record: `test_met_HoldReportInRun` names steps that suit a report and steps that do not. -/
theorem test_met_HoldReportSuits (b : StepBytes) :
    let s := { reporting (held b .pause) with handler.probe := true }
    s.resetN = true ∧ s.engine.state = .hold ∧ curStep s = curStep (running b) ∧ s.handler.probe = true ∧
      ∀ r ∈ [Report.probe, .scale, .overweight, .lostPower], r ∈ s.inbox.reports :=
  ⟨rfl, rfl, rfl, rfl, (by decide :
    ∀ r ∈ [Report.probe, .scale, .overweight, .lostPower], r ∈ (reporting live).inbox.reports)⟩

theorem test_met_FaultReport :
    (∀ s ∈ [reporting (running timeRec), reporting live, reporting (faulted .barred)], s.resetN = true ∧
      ∀ r ∈ [Report.sensor, .overtemp, .lidSense, .budgetMismatch, .barred], r ∈ s.inbox.reports) ∧
    (running timeRec).engine.state ≠ .fault ∧ (running timeRec).engine.state.active = true ∧
    (running timeRec).engine.slot = some 0 ∧ live.engine.state.active = false ∧ live.engine.slot = none ∧
    (faulted .barred).engine.state = .fault := by decide

/-! ## Taken frames and requests -/

theorem test_met_TakenFrames :
    (let s := { live with line.abandoned := true }; s.resetN = true ∧ s.line.abandoned = true) ∧
    (∀ s ∈ [live, listening], PeerFrame 2 s ∧ s.share.rows[(2 : Station)].status = .present) ∧
    (let s := { live with line.participation := .barred }; PeerFrame 2 s ∧ s.line.participation ≠ .live) ∧
    live.share.rows[(3 : Station)].status ≠ .present ∧ ((7 : Fin 16).val = 7 ∨ 9 ≤ (7 : Fin 16).val) ∧
    ((9 : Fin 16).val = 7 ∨ 9 ≤ (9 : Fin 16).val) := by
  unfold PeerFrame; decide

theorem test_met_DuplicateNumber :
    ∀ s ∈ [live, listening], s.resetN = true ∧ s.line.abandoned = false ∧ s.line.participation ≠ .barred ∧
      s.handler.restartPending = false := by decide

theorem test_met_Requests :
    ((0 : Byte).toNat = 0 ∨ 12 ≤ (0 : Byte).toNat) ∧ ((12 : Byte).toNat = 0 ∨ 12 ≤ (12 : Byte).toNat) ∧
    -- not acted on
    (PeerFrame 1 listening ∧ listening.line.participation ≠ .live) ∧ ((31 : Dest).val ≠ live.own.val) ∧
    (let s := { live with handler.restartPending := true }; PeerFrame 1 s ∧ s.handler.restartPending = true) ∧
    -- acted on: no panel, another panel, the panel
    (let s := { live with handler.panel := none }; PeerFrame 1 s ∧ s.line.participation = .live ∧
      (0 : Dest).val = s.own.val ∧ s.handler.restartPending = false ∧ s.handler.panel = none) ∧
    (PeerFrame 2 live ∧ live.handler.panel ≠ none ∧ live.handler.panel ≠ some 2) ∧
    ((3 : Byte).toNat = (3 : Fin 4).val ∧ 4 ≤ (4 : Byte).toNat) ∧
    (PeerFrame 1 live ∧ live.handler.panel = some 1) := by
  unfold PeerFrame; decide

theorem test_met_Start :
    -- one that passes from IDLE, one that passes in RUN, and the three refusals
    (let s := { live with slots := Vector.ofFn fun _ => { Slot.reset with state := .ready } };
      let a : StartArgs := ⟨17, 1, 3⟩
      PeerFrame 1 s ∧ s.handler.panel = some 1 ∧ s.handler.restartPending = false ∧
      (3 : Fin 4).val = a.slots.toNat / 4 ^ s.own.val % 4 ∧ a.mask.getLsbD s.own.val = true ∧ a.tag ≠ 0 ∧
      s.engine.state ≠ .unready ∧ s.engine.state ≠ .fault ∧ s.slots[(3 : Fin 4)].state = .ready) ∧
    (let s := running timeRec; s.engine.state = .run ∧ s.slots[(0 : Fin 4)].state = .running) ∧
    (let a : StartArgs := ⟨0, 1, 0⟩; a.tag = 0) ∧ (let a : StartArgs := ⟨17, 2, 0⟩; a.mask.getLsbD live.own.val = false) ∧
    (faulted .sensor).engine.state = .fault ∧ (live.slots[(0 : Fin 4)].state ≠ .ready ∧
      live.slots[(0 : Fin 4)].state ≠ .running) ∧
    (31 : Dest).val = 31 ∧ (0 : Dest).val = live.own.val ∧ live.line.participation = .live := by
  unfold PeerFrame; decide

theorem test_met_CommandsByState :
    ∀ s ∈ [running timeRec, running confirmRec, held timeRec .pause, held timeRec .bowl, faulted .sensor, live],
      FromPanel 1 0 s := by
  unfold FromPanel Machine.Directed PeerFrame; decide

theorem test_met_PauseAndAbort :
    (running timeRec).engine.state = .run ∧ (held timeRec .pause).engine.state = .hold ∧
    (live.engine.state ≠ .run ∧ live.engine.state ≠ .hold) := by decide

theorem test_met_Resume :
    live.engine.state ≠ .hold ∧
    -- met
    (∀ s ∈ [held timeRec .pause, held confirmRec .power],
      s.engine.state = .hold ∧ curStep s = some (stepOf s) ∧ s.engine.saved.isSome = true ∧
      s.chan.latest.bowl = true ∧ ((stepOf s).setting.level < 5 ∨ s.chan.latest.lid = true) ∧
      s.engine.causes.probe = false ∧ s.engine.causes.scale = false) ∧
    (held holdAboveRec .probe).chan.foodRange.present = false ∧
    (let s := held weighRec .scale; s.chan.wgtRange.present = false ∧ overweight s.scale.latestGross = false) ∧
    -- not met
    ({ held timeRec .pause with chan.latest.bowl := false }).chan.latest.bowl = false ∧
    -- a saved weigh phase, with and without a lifted bowl
    (let s := { running weighRec with scale.phase := .add };
      (saveContext .bowl s).weigh.isSome = true ∧ (saveContext .bowl s).lifted = true ∧
      (saveContext .pause s).lifted = false ∧ (saveContext .pause s).weigh.map SavedWeigh.phase = some .add) ∧
    (saveContext .pause (running weighRec)).weigh.map SavedWeigh.phase ≠ some .add ∧
    (saveContext .pause (running timeRec)).weigh = none ∧
    (let s := heating (set true 18000 490 490 0);
      (saveContext .pause s).ramp = some (90, 5) ∧
      -- a running period, one cut, and none
      (s.heater.cut = false ∧ s.heater.periodRunning = true) ∧ ({ s with heater.cut := true }).heater.cut = true ∧
      (held timeRec .pause).heater.periodRunning = false) := by decide

theorem test_met_SkipAndConfirm :
    (∀ s ∈ [running timeRec, running confirmRec], s.engine.state = .run ∧ curStep s = some (stepOf s)) ∧
    (stepOf (running confirmRec)).kind = .confirm ∧ (stepOf (running timeRec)).kind ≠ .confirm ∧
    live.engine.state ≠ .run := by decide

theorem test_met_Clear :
    live.engine.state ≠ .fault ∧
    (∀ code ∈ allFaults, (faulted code).engine.state = .fault ∧ (faulted code).engine.fault = some code) ∧
    -- not met: 1200 counts
    ({ faulted .overtemp with chan.latest.base := 1200 }).chan.latest.base = 1200 ∧
    -- met, nothing left, and one fault left
    ([FaultCode.overtemp, .sensor, .lidSense, .stepTimeout, .config, .barred].filter
      fun c => c ≠ .stepTimeout && standing (faulted .stepTimeout) c) = [] ∧
    ([FaultCode.overtemp, .sensor, .lidSense, .stepTimeout, .config, .barred].filter
      fun c => c ≠ .stepTimeout && standing { faulted .stepTimeout with share.mismatch := 4 } c) = .config :: [] := by
  decide

theorem test_met_TareAndSetup :
    (let s := { live with scale.steady := true, scale.latestCount := some 18000 };
      FromPanel 1 0 s ∧ s.engine.state = .idle ∧ s.scale.steady = true ∧ s.scale.latestCount = some 18000) ∧
    live.scale.steady = false ∧ ((running timeRec).engine.state ≠ .idle ∧ (running timeRec).engine.state ≠ .ended) ∧
    -- SETUP: another panel, busy, out of range, taken
    (Machine.Directed 2 0 live ∧ live.handler.panel ≠ none ∧ live.handler.panel ≠ some 2) ∧
    ((running timeRec).handler.panel = some 1 ∧ (running timeRec).engine.state = .run) ∧
    (let s := { live with handler.panel := none }; Machine.Directed 2 0 s ∧ s.handler.panel = none ∧ s.engine.state = .idle) ∧
    ((999 : Word16).toNat < 1000 ∧ 60000 < (60001 : Word16).toNat ∧ 20000 < (20001 : Word16).toNat ∧
      1 < (2 : Byte).toNat) ∧
    (1000 ≤ (1000 : Word16).toNat ∧ (60000 : Word16).toNat ≤ 60000 ∧ (20000 : Word16).toNat ≤ 20000 ∧
      (1 : Byte).toNat ≤ 1) := by
  unfold FromPanel Machine.Directed PeerFrame; decide

/-- A station with a slot 0 of the given state that holds two records of three. -/
def slotted (state : SlotState) (a b : Option StepBytes) : State := { live with
  slots := Vector.ofFn fun k => if k = 0 then
    ⟨state, 2, Vector.ofFn fun i => if i = 0 then a else if i = 1 then b else none⟩ else Slot.reset }

/-- MARK: mark 1 of station 0, the own station. -/
def selfRec : StepBytes := #v[192, 0, 0, 0, 0, 0, 0, 0, 0, 1, 0, 0, 0, 1, 0, 0]

theorem test_met_Slots :
    -- records: one that raises a mark, one that does not, one that waits for a mark
    ((readRecord timeRec).isSome = true ∧ (timeRec[(0 : Fin 16)].toNat % 2 = 1 ∧ (7 : Fin 32).val = 7) ∧
      weighRec[(0 : Fin 16)].toNat % 2 = 0 ∧ (readRecord markRec).isSome = true ∧
      markRec[(0 : Fin 16)].toNat / 32 = 6 ∧ markRec[(8 : Fin 16)].toNat = (2 : Station).val ∧
      markRec[(9 : Fin 16)].toNat = (1 : Fin 32).val) ∧
    4 ≤ (4 : Byte).toNat ∧ (3 : Byte).toNat = (3 : Fin 4).val ∧
    (∀ state ∈ [SlotState.empty, .loading, .ready, .running],
      FromPanel 1 0 (slotted state none none) ∧ (slotted state none none).slots[(0 : Fin 4)].state = state) ∧
    ((0 : Byte).toNat = 0 ∧ 32 < (33 : Byte).toNat ∧ 1 ≤ (1 : Byte).toNat ∧ (32 : Byte).toNat ≤ 32) ∧
    -- STEP LOAD: index at and below the count, an invalid and a valid record
    (let s := slotted .loading none none;
      s.slots[(0 : Fin 4)].count ≤ (2 : Byte).toNat ∧ 32 ≤ (32 : Byte).toNat ∧
      ((1 : Byte).toNat = (1 : Fin 32).val ∧ (1 : Fin 32).val < s.slots[(0 : Fin 4)].count) ∧
      firstBadField s.rating timeRec = some 6 ∧ firstBadField s.rating weighRec = none) ∧
    -- CLOSE SLOT: incomplete; complete with a wrong sum, with a wait on itself, and good
    (let old := (slotted .loading (some weighRec) none).slots[(0 : Fin 4)];
      ¬ ∀ i < old.count, old.recordAt i ≠ none) ∧
    (∀ s ∈ [slotted .loading (some weighRec) (some selfRec), slotted .loading (some weighRec) (some markRec)],
      let old := s.slots[(0 : Fin 4)]
      (∀ i < old.count, old.recordAt i ≠ none) ∧
      ((old.records.toList.filterMap id).map recordSum).sum % 65536 ≠ 0) ∧
    (let old := (slotted .loading (some weighRec) (some markRec)).slots[(0 : Fin 4)];
      ((old.records.toList.filterMap id).map recordSum).sum % 65536 = (612 : Word16).toNat) ∧
    (let old := (slotted .loading (some weighRec) (some selfRec)).slots[(0 : Fin 4)];
      ((old.recordAt 1).bind readRecord).map StepRec.kind = some (.mark live.own 1) ∧
      ∀ j < 1, ((old.recordAt j).bind readRecord).bind StepRec.raise ≠ some 1) := by
  unfold FromPanel Machine.Directed PeerFrame; decide

theorem test_met_Queries :
    (Machine.Directed 1 0 live ∧ live.handler.panel ≠ none) ∧
    (let s := { live with handler.panel := none }; Machine.Directed 1 0 s ∧ s.handler.panel = none) ∧
    ((0 : Byte).toNat = 0 ∧ 8 ≤ (8 : Byte).toNat) ∧ (15 : Byte).toNat = (15 : Station).val ∧ 16 ≤ (16 : Byte).toNat ∧
    (3 : Byte).toNat = (3 : Fin 4).val ∧ 4 ≤ (4 : Byte).toNat ∧ (32 : Byte).getLsbD 5 = true ∧
    -- STEP: a present record, an index at the count, an absent record
    (let s := slotted .loading (some weighRec) none;
      (0 : Byte).getLsbD 5 = false ∧ (0 : Byte).toNat / 64 = (0 : Fin 4).val ∧
      (0 : Byte).toNat % 32 < s.slots[(0 : Fin 4)].count ∧
      s.slots[(0 : Fin 4)].recordAt ((0 : Byte).toNat % 32) = some weighRec ∧
      s.slots[(0 : Fin 4)].count ≤ (2 : Byte).toNat % 32 ∧
      s.slots[(0 : Fin 4)].recordAt ((1 : Byte).toNat % 32) = none) ∧
    -- JOURNAL: none, the newest
    live.journal.entries.length ≤ (0 : Byte).toNat ∧
    (noteEvent .joined live).journal.entries.reverse[(0 : Byte).toNat]? = some (.station 0 0 .joined) := by
  unfold Machine.Directed PeerFrame; decide

/-! ## Share unit and mark board -/

theorem test_met_PeerClaims :
    (∀ s ∈ [live, listening], PeerFrame 2 s ∧ (s.line.participation = .live ∨ s.line.participation = .listen)) ∧
    ((15 : Dest).val < 16 ∨ (15 : Dest).val = 31) ∧ ((31 : Dest).val < 16 ∨ (31 : Dest).val = 31) ∧
    (16 ≤ (16 : Dest).val ∧ (16 : Dest).val ≠ 31) ∧
    -- a known row and an unknown one; a release, what is held, an increase
    ((noted 2 live).share.rows[(2 : Station)].status ≠ .absent ∧ (noted 3 live).share.rows[(3 : Station)].status = .absent) ∧
    ((4 : Byte).toNat ≤ (noted 2 live).share.rows[(2 : Station)].grant ∧
      (noted 2 live).share.rows[(2 : Station)].grant < (5 : Byte).toNat) ∧
    (let s := { live with line.participation := .lineFault }; PeerFrame 2 s ∧ s.line.participation ≠ .live ∧
      s.line.participation ≠ .listen) := by
  unfold PeerFrame; decide

theorem test_met_PeerPresences :
    -- a disagreement in LIVE, none, another budget code, the same one
    (live.line.participation = .live ∧ (noted 2 live).share.rows[(2 : Station)].grant < (5 : Byte).toNat) ∧
    ¬ (noted 2 live).share.rows[(2 : Station)].grant < (4 : Byte).toNat ∧
    ((4 : Byte).toNat / 4 % 8 ≠ live.straps.budget.val ∧ live.share.mismatch.getLsbD (2 : Station).val = false) ∧
    (3 : Byte).toNat / 4 % 8 = live.straps.budget.val := by decide

theorem test_met_Evictions :
    (PeerFrame 2 live ∧ (1 : StationSet).getLsbD live.own.val = true ∧ (4 : StationSet).getLsbD live.own.val = false) ∧
    (∀ s ∈ [live, listening], s.resetN = true ∧ s.share.rows[(2 : Station)].status = .present ∧
      s.share.rows[(2 : Station)].silence = .running) ∧
    live.share.rows[(3 : Station)].status ≠ .present := by
  unfold PeerFrame; decide

theorem test_met_Marks :
    (let s := running markRec; PeerFrame 2 s ∧ s.line.participation = .live ∧ (31 : Dest).val = 31 ∧ s.engine.tag ≠ 0 ∧
      (17 : Byte) = s.engine.tag ∧ s.engine.mask.getLsbD (2 : Station).val = true) ∧
    ((16 : Byte) ≠ (running markRec).engine.tag ∧ (running markRec).engine.mask.getLsbD (3 : Station).val = false) ∧
    (let s := { running markRec with inbox.marks := [⟨2, 17, 1⟩] };
      s.resetN = true ∧ s.inbox.marks = ⟨2, 17, 1⟩ :: [] ∧ (2 : Station) ≠ s.own) ∧
    (live.engine.tag = 0) := by
  unfold PeerFrame; decide

theorem test_met_ClaimReviews :
    (live.resetN = true ∧ live.line.participation = .live ∧ live.share.reviewTimer = .running) ∧
    listening.line.participation ≠ .live ∧
    (∀ s ∈ [{ live with inbox.wants := [20] }, { listening with inbox.wants := [20] }], s.inbox.wants = 20 :: []) ∧
    -- a fair share with a starved row
    wanting live.share.rows = 2 ∧ live.share.rows[(2 : Station)].starved (16 / 2) = true := by decide

/-! ## Line controller -/

/-- A frame of this station on the line. -/
def sending (f : OwnFrame) : State := { live with line := { live.line with onLine := some ⟨f, false, false⟩ } }

theorem test_met_Offers :
    (live.resetN = true ∧ live.line.participation = .live ∧ live.line.onLine = none ∧ live.line.finishing = none) ∧
    (∃ f, nextOffer { live with tx.presence := true } = some f ∧ (127 : Byte).toNat < 16 * f.kind.val + live.own.val ∧
      16 * f.kind.val + live.own.val ≤ (128 : Byte).toNat) ∧
    nextOffer live = none ∧ listening.line.participation ≠ .live :=
  ⟨by decide, ⟨_, rfl, by decide, by decide⟩, by decide, by decide⟩

/-- Cells that read as sent, and first cells unlike at the ends of each range. -/
theorem test_met_Echo :
    let f : WireFrame := ⟨8, 1, 31, []⟩
    let line := f.cells.map some
    let read := fun (cells : List (Option Bool)) (i : Nat) => (cells[i]?).join
    let sound := fun (cells : List (Option Bool)) (n : Nat) => ∀ i < n, read cells i = f.cells[i]?
    sound line 35 ∧ read line 35 ≠ some false ∧ read (line.set 35 (some false)) 35 = some false ∧
    (∀ i ∈ [1, 8], sound (line.set i (some false)) i ∧ read (line.set i (some false)) i ≠ f.cells[i]? ∧
      read (line.set i (some false)) i = some false) ∧
    ∀ i ∈ [0, 1, 8, 9, 34], sound (line.set i none) i ∧ read (line.set i none) i ≠ f.cells[i]? := by decide +kernel

theorem test_met_OwnFrames :
    (∀ f ∈ [OwnFrame.evict 4, .claim ⟨8, 20⟩, .claim ⟨9, 20⟩, .mark ⟨17, 2⟩, .reply ⟨1, 2, .done, 0, []⟩, .presence []],
      (sending f).resetN = true ∧ (sending f).handler.restartPending = false ∧
      (sending f).line.onLine = some ⟨f, false, false⟩ ∧ (sending f).line.participation = .live) ∧
    (let f := OwnFrame.reply ⟨1, 2, .done, 0, []⟩;
      (∀ left ∈ [true, false], ({ live with line.onLine := some ⟨f, true, left⟩ }).line.onLine = some ⟨f, true, left⟩) ∧
      (let s := { live with line.onLine := some ⟨.claim ⟨8, 20⟩, true, false⟩, tx.claim := some ⟨3, 20⟩ };
        s.line.onLine = some ⟨.claim ⟨8, 20⟩, true, false⟩ ∧ s.tx.claim = some ⟨3, 20⟩) ∧
      (let s := { listening with line.finishing := some f }; s.line.onLine = none ∧ s.line.finishing = some f) ∧
      ({ listening with line.onLine := some ⟨f, false, true⟩ }).line.onLine = some ⟨f, false, true⟩) ∧
    ((8 : Nat) ≤ live.ownRow.grant ∧ live.ownRow.grant < 9) := by decide

theorem test_met_BadFrames :
    (∀ s ∈ [live, { live with line.spoil := 6 }, { live with line.spoil := 7 }, listening], s.resetN = true ∧
      s.handler.restartPending = false ∧ s.line.abandoned = false ∧ s.share.rows[s.own].status = .self ∧
      s.share.rows[s.own].settled = true ∧
      s.share.rows[s.own].silence = .stopped) ∧
    (live.line.participation = .live ∧ live.line.ownSilence = .running) ∧
    ({ live with line.spoil := 6 }).line.spoil < 7 ∧ ({ live with line.spoil := 7 }).line.spoil = 7 ∧
    listening.line.participation = .listen ∧
    ({ listening with line.participation := .lineFault }).line.participation = .lineFault := by decide

theorem test_met_Window :
    (listening.resetN = true ∧ listening.line.participation = .listen ∧ listening.line.window = .running) ∧
    -- ready, and a table over the budget of 16
    ((∀ i : Station, listening.share.rows[i].status = .present → listening.share.rows[i].settled = true) ∧
      ((List.finRange 16).map fun i => listening.share.rows[i].grant).sum ≤ 16 + 8 * listening.straps.budget.val) ∧
    (let s := { listening with share.rows := Vector.ofFn fun i =>
        if i = 0 then ⟨.self, 0, 0, true, .stopped⟩ else if i = 2 then ⟨.present, 17, 0, true, .running⟩ else Row.absent };
      ¬((List.finRange 16).map fun i => s.share.rows[i].grant).sum ≤ 16 + 8 * s.straps.budget.val) ∧
    (let s := { listening with line.window := .expired }; s.line.participation = .listen ∧ s.line.window = .expired) ∧
    (live.line.participation = .live ∧ live.line.presence = .running) ∧
    (let s := { listening with line.participation := .lineFault, line.quiet := .running };
      s.line.participation = .lineFault ∧ s.line.quiet = .running) := by decide

/-! ## Promises -/

/-- A run that ends on its next sample set keeps every promise, and steps. -/
def ending : State :=
  let s := running timeRec
  { s with
    pending := [.engineSampleSet]
    engine := { s.engine with duration := 119 }
    board := Board.reset
    inbox := { s.inbox with engine := [delivered (set true 18000 490 490 0)] }
    journal := ⟨[.step ⟨17, some 0, 0, 0, 0, none, none, none, none⟩], 1⟩ }

theorem test_met_Promises :
    WithinBudget ending ∧ HoldKept ending ∧ SlotLent ending ∧ JournalBounded ending ∧ OwnRowOwnSet ending ∧
      HeaterBounded ending ∧ LockedWhenFast ending ∧ MaskSound ending ∧ GrantOnlyLive ending ∧
      ∃ t, step ending = .next t := by
  refine ⟨?_, ?_, ?_, ?_, ?_, ?_, ?_, ?_, ?_, _, rfl⟩
  · unfold WithinBudget; decide
  · unfold HoldKept; decide
  · unfold SlotLent; decide
  · unfold JournalBounded; decide
  · unfold OwnRowOwnSet; decide
  · unfold HeaterBounded; decide
  · unfold LockedWhenFast; decide
  · unfold MaskSound; decide
  · refine fun _ => ⟨by decide, ?_, by decide⟩
    intro f h
    cases h

theorem test_met_Frames :
    (Instr.otherKindTaken 1 31 9).wellFormed = true ∧ (wireOf (.otherKindTaken 1 31 9)).isSome = true ∧
    (Instr.unknownItem 1 0 8 0).wellFormed = true ∧ (wireOf (.unknownItem 1 0 8 0)).isSome = true := by decide

end Sys2Proof.Tests
end

