-- ==== Sys2Proof/Tests/Slice0.lean ====
section
/-! SUPPORT. Tests/Slice0.lean: the model's own tests: ill-formed commands refused, the worked examples of the spec, and
single steps on small states. -/

namespace Sys2Proof.Tests

open Sys2Proof Sys2Proof.Machine

/-! ## Well-formed commands -/

theorem test_kind_of_its_own_row_refused : (Instr.otherKindTaken 1 31 8).wellFormed = false := by decide

theorem test_kind_zero_refused : (Instr.otherKindTaken 1 31 0).wellFormed = false := by decide

theorem test_reply_kind_accepted : (Instr.otherKindTaken 1 0 7).wellFormed = true := by decide

theorem test_known_command_code_refused : (Instr.unknownCommand 1 0 1).wellFormed = false := by decide

theorem test_last_command_code_refused : (Instr.unknownCommand 1 0 11).wellFormed = false := by decide

theorem test_unknown_command_code_accepted : (Instr.unknownCommand 1 0 12).wellFormed = true := by decide

theorem test_known_item_code_refused : (Instr.unknownItem 1 0 1 0).wellFormed = false := by decide

theorem test_unknown_item_code_accepted : (Instr.unknownItem 1 0 8 0).wellFormed = true := by decide

/-! ## Records (sections 1.10 and 11.2) -/

theorem test_record_of_section_11_2 : readRecord tempRec = some {
    kind := .temp 120, continues := true, target := 85, ramp := 5, claimUnits := 15, holdUnits := 6
    setting := ⟨4, .reverse, .continuous, 0, 0⟩, timeout := 1500, raise := some 7, prompt := 42 } := by decide

theorem test_sum_of_section_11_2 : recordSum tempRec = 586 := by decide

/-- A WEIGH step with level 4 and a target of 0 with claim units 5 fails field 6 first, then field 8 (R9). -/
theorem test_first_bad_field :
    firstBadField 20 #v[160, 0, 0, 5, 0, 4, 0, 0, 1, 244, 0, 10, 0, 0, 0, 0] = some 6 ∧
      firstBadField 20 #v[160, 0, 0, 0, 0, 4, 0, 0, 1, 244, 0, 10, 0, 0, 0, 0] = some 8 := by decide

theorem test_end_codes_0_and_7_fail_field_1 :
    firstBadField 20 (Vector.replicate 16 0) = some 1 ∧
      firstBadField 20 ((Vector.replicate 16 0).set 0 224) = some 1 := by decide

/-! ## Frames (R165 to R171, section 10.7) -/

/-- The generator and the register's start give the known check of nine digits. -/
theorem test_crc_of_nine_digits :
    crc16 (payloadBits [0x31, 0x32, 0x33, 0x34, 0x35, 0x36, 0x37, 0x38, 0x39]) = 0x29B1#16 := by decide +kernel

/-- An EVICT mask {4} of station 6 for all stations (section 10.7). -/
def evictFrame : WireFrame := ⟨0, 6, 31, [0, 16]⟩

/-- It has 53 cells with the two verdict cells, and its header is kind 0, source 6, all, length 2. -/
theorem test_evict_cells :
    evictFrame.cells.length = 53 ∧ evictFrame.cells.take 19 = [false, false, false, false, false, false, true, true, false,
      true, true, true, true, true, false, false, false, true, false] := by decide

/-- A frame of 20 bytes has 197 cells (R167). -/
theorem test_longest_frame : (WireFrame.cells ⟨9, 0, 31, List.replicate 20 0⟩).length = 197 := by decide +kernel

theorem test_evict_received : receive ((evictFrame.onLine true false).map some) = some (.evict 6 31 16) := by
  decide +kernel

theorem test_spoiled_frame : receive ((evictFrame.onLine true true).map some) = some .frameSpoiled := by decide +kernel

theorem test_frame_with_a_wrong_bit :
    receive (((evictFrame.onLine true false).set 40 true).map some) = some (.frameFoundBad (.read true false)) := by
  decide +kernel

theorem test_frame_with_a_wrong_header_pulse :
    receive (((evictFrame.onLine true false).map some).set 12 none) = some (.frameFoundBad .unplaced) := by decide

/-- A first cell that is a 1 or an encoding error begins no frame and is not counted (R165). -/
theorem test_no_start_cell :
    receive (((evictFrame.onLine true false).map some).set 0 (some true)) = none ∧
      receive (((evictFrame.onLine true false).map some).set 0 none) = none := by decide

/-- A short pulse of noise, an idle line, then a frame: the frame alone is heard (R165). -/
theorem test_noise_then_a_frame :
    hear (⟨0, 1500⟩ :: pulsesOf 100000 (evictFrame.onLine true false)) = [.evict 6 31 16] := by decide +kernel

/-- A frame with a pulse missing is heard as a bad frame; its verdict cells are still read (R165, R170). -/
theorem test_missing_pulse :
    hear ((pulsesOf 0 (evictFrame.onLine true false)).eraseIdx 40) = [.frameFoundBad (.read true false)] := by
  decide +kernel

/-- The offer of the EVICT ends with its verdict (R171). -/
theorem test_own_frame_reads_back :
    hearSent evictFrame ((evictFrame.onLine true false).map some) = [.offer none, .ownFrameTaken] ∧
      hearSent evictFrame (evictFrame.cells.map some) = [.offer none, .ownFrameDropped] := by decide +kernel

/-- An EVICT of station 4 in the same cell wins: its 0 covers the 1 at cell 7 (R168). -/
theorem test_arbitration_lost :
    hearSent evictFrame (((⟨0, 4, 31, [0, 8]⟩ : WireFrame).onLine true false).map some) =
      [.offer (some 4), .evict 4 31 8] := by decide +kernel

/-- A 0 for a 1 is an echo fault from the destination on, a 1 for a 0 and no valid pulse at every cell (R169). -/
theorem test_echo_faults :
    let line := (evictFrame.onLine true false).map some
    evictFrame.echo line = .same ∧ evictFrame.echo (line.set 6 (some false)) = .lost ∧
      evictFrame.echo (line.set 9 (some false)) = .fault ∧ evictFrame.echo (line.set 0 (some true)) = .fault ∧
      evictFrame.echo (line.set 1 (some true)) = .fault ∧ evictFrame.echo (line.set 6 none) = .fault ∧
      evictFrame.echo (line.take 50) = .fault ∧ evictFrame.echo (line.take 51) = .same := by decide +kernel

/-- Another sender with the same kind and number goes on alone; its frame is received (R169, R172). -/
theorem test_echo_fault_of_a_double :
    hearSent evictFrame (((⟨0, 6, 31, [0, 8]⟩ : WireFrame).onLine true false).map some) =
      [.offer none, .echoFault, .evict 6 31 8] := by decide +kernel

theorem test_pulses : pulseBit 2000 = some true ∧ pulseBit 5000 = some false ∧ pulseBit 3500 = none := by decide

/-- The CLAIM of station 2 loses to the EVICT of station 6; between equal kinds the lower number wins (section 10.7). -/
theorem test_arbitration :
    arbitration 0 6 < arbitration 1 2 ∧ arbitration 1 2 < arbitration 8 6 ∧ arbitration 8 2 < arbitration 8 6 := by decide

/-- A START broadcast with tag 17, stations 2 and 6, slot 1 for station 6. -/
theorem test_start_received :
    commandOf ⟨2, 1, 31, [1, 17, 0, 68, 0, 0, 16, 0]⟩ = .start 1 31 (some ⟨17, 68, 4096⟩) ∧
      startSlot 4096 6 = 1 ∧ startSlot 4096 2 = 0 := by decide

theorem test_short_start : commandOf ⟨2, 1, 31, [1, 17]⟩ = .start 1 31 none := by decide

/-! ## Worked values of the chapters -/

/-- Target-now after 10 and 13 seconds of a ramp of 7 °C per minute from 30 °C (R102). -/
theorem test_ramp : rampedTarget 90 7 10 (some 120) = 124 ∧ rampedTarget 90 7 13 (some 120) = 126 := by decide

/-- The demands of R105 at 96.00, 99.75 and 90.00 °C for a target of 100 °C. -/
theorem test_demand :
    demand 20 100 400 784 = 10 ∧ demand 20 100 400 799 = 1 ∧ demand 20 100 400 760 = 20 := by decide

/-- The on-slots of the table of section 5.8. -/
theorem test_on_slots :
    onSlotsOf 20 1 = 1 ∧ onSlotsOf 20 3 = 4 ∧ onSlotsOf 20 15 = 19 ∧ onSlotsOf 20 13 = 16 ∧ onSlotsOf 20 4 = 5 := by
  decide

/-- A claim for 20 where 26 of 40 are granted elsewhere and 7 held (R54). -/
theorem test_increase : grantAfterClaim 40 26 20 7 = 14 := by decide

/-- A step entered at its target is COOLING and reaches it at the next set; one just below is HEATING (R30). -/
theorem test_approach :
    approachOf 80 720 = some .cooling ∧ targetReached (some .cooling) 80 720 = true ∧
      approachOf 80 719 = some .heating ∧ targetReached (some .heating) 80 716 = true ∧
      targetReached (some .heating) 80 715 = false := by decide

/-- The weights of R132. -/
theorem test_grams : grams 19361 12000 4000 = 1840 ∧ grams 19361 18000 4000 = 340 ∧ grams 17998 18000 4000 = 0 := by
  decide

/-- The re-references of R137. -/
theorem test_re_reference :
    referenceFor 25000 341 2999 = 23977 ∧ grams 25000 23977 2999 = 341 ∧ grams 25000 25036 2999 = -12 ∧
      referenceFor 25000 (-12) 2999 = 25036 := by decide

/-- Level 1: 40 rpm holds the duty, 30 rpm raises it, 50 rpm lowers it (R124). -/
theorem test_duty : dutyAfter 8 1 4 = 8 ∧ dutyAfter 8 1 3 = 10 ∧ dutyAfter 8 1 5 = 6 := by decide

/-- The third bad set makes the condition present, the third good one absent (section 8.8). -/
theorem test_range_condition :
    ([false, false, true, false, false, false].foldl RangeWatch.update ⟨false, 0⟩) = ⟨true, 0⟩ ∧
      ([true, false, true, true, true].foldl RangeWatch.update ⟨true, 0⟩) = ⟨false, 0⟩ := by decide

/-- A bowl lifted for one gate end and for three (section 8.9). -/
theorem test_debounce :
    ([false, true].foldl Debounce.update ⟨true, 0⟩) = ⟨true, 0⟩ ∧
      ([false, false].foldl Debounce.update ⟨true, 0⟩) = ⟨true, 2⟩ ∧
      ([false, false, false].foldl Debounce.update ⟨true, 0⟩) = ⟨false, 0⟩ := by decide

/-! ## Single steps -/

/-- The state a command leaves. -/
def after (c : Instr) (s : State) : State :=
  match exec c s with
  | .next t => t
  | .fault _ => s
  | .refused _ => s

theorem test_step_takes_the_front :
    let s := { live with pending := [.pause 1 0, .resume 1 0] }
    step s = .next (after (.pause 1 0) { live with pending := [.resume 1 0] }) := rfl

theorem test_idle : step live = .next live := rfl

theorem test_reset_with_even_parity :
    let s := after (.reset ⟨0, false, 3, 2⟩ ⟨true, true, false, false, false, false, false⟩) live
    s.line.participation = .barred ∧ s.inbox.reports = [.barred] ∧ s.budget = 40 ∧ s.rating = 20 := by decide

theorem test_pause_holds :
    let s := after (.pause 1 0) (running timeRec)
    s.engine.state = .hold ∧ s.engine.causes.pause = true ∧
      s.tx.reply = some ⟨1, 2, .done, 0, [3, 0, 0, 1, 1, 0, 17, 0, 0, 0, 20, 8, 8, 0, 1]⟩ := by decide

theorem test_resume_runs :
    let s := after (.resume 1 0) (held timeRec .pause)
    s.engine.state = .run ∧ s.engine.saved = none ∧ s.heater.target = 85 ∧ s.stirrer.state = .spinup := by decide

theorem test_confirm_of_another_step :
    (after (.confirm 1 0) (running timeRec)).tx.reply.map Reply.result = some .notWaiting := by decide

theorem test_last_step_ends_the_run :
    let s := after .engineSampleSet (sampled (set true 18000 490 490 0) { running timeRec with engine.duration := 119 })
    s.engine.state = .ended ∧ s.engine.index = 1 ∧ s.slots[(0 : Fin 4)].state = .ready ∧ s.board.own = 128 ∧
      s.tx.mark = some ⟨17, 128⟩ := by decide

theorem test_overtemperature_latches :
    let s := after .overtemp (reporting (running timeRec))
    s.engine.state = .fault ∧ s.engine.fault = some .overtemp ∧ s.slots[(0 : Fin 4)].state = .ready := by decide

theorem test_fault_again :
    (after .overtemp (reporting (faulted .overtemp))).journal.entries = [.station 0 0 (.faultAgain .overtemp)] := by decide

/-- A step with a target and claim units 0 applies no units, whatever is usable (R6, log entry 35). -/
theorem test_no_claim_no_heat : (Heater.compute
    { Heater.reset with regulating := true, target := 85, targetNow := 340, usable := 8 } 20 490).applied = 0 := by decide

/-- The set whose handling entered a WEIGH step reaches the scale after it and gives no reference; the next one does
(R29, R135, log entry 38). -/
theorem test_entry_set_gives_no_reference :
    let s := weighing .settle [1500, 1500, 1500, 1500, 1500] 18000
    let x := set false 18000 490 490 0
    let u := after .scaleSampleSet { s with scale.early := 1, inbox.scale := [x, x] }
    u.scale.phase = .settle ∧ u.scale.early = 0 ∧ (after .scaleSampleSet u).scale.phase = .add := by decide

/-- That set is tested for its weight all the same (R138). -/
theorem test_entry_set_is_weighed :
    let s := weighing .settle [] 28000
    (after .scaleSampleSet { s with scale.early := 1, handler.cpk := 1000 }).inbox.reports = [.overweight] := by decide

/-- The bad frame that ends LIVE shows SPOIL driven where its verdict cells were placed (R170, R177). -/
theorem test_eighth_bad_frame :
    let s := { live with line.spoil := 7 }
    (after (.lineFault (.read false true)) s).line.verdict = .spoil ∧
      (after (.lineFault .unplaced) s).line.verdict = .nothing ∧
      (after (.lineFault .unplaced) s).line.participation = .lineFault := by decide

/-- A RESTART carried out at own silence abandons a frame under reception (R166, R186). -/
theorem test_restart_at_own_silence :
    let s := { live with handler.restartPending := true, tx.reply := some ⟨1, 2, .done, 0, []⟩ }
    ∀ receiving, (after (.ownSilence receiving) s).line.abandoned = receiving := by
  intro s receiving
  let u := enterListen (leaveLive .ownSilence s)
  have line : (restart u).line.abandoned = false := by rw [(restart_line u).1]; rfl
  have op : after (.ownSilence receiving) s = whileReceiving receiving restart u := by cases receiving <;> rfl
  have done : u.handler.restartPending = true := rfl
  cases receiving <;> simp [op, whileReceiving, done, line, (restart_line u).2]

/-- The engine enters a step by the set it takes, not by a later one the channels have formed (R145). -/
theorem test_engine_uses_the_set_it_takes :
    let s := { running timeRec with
      engine.duration := 119
      slots := Vector.ofFn fun _ => ⟨.running, 2, Vector.ofFn fun _ => some timeRec⟩ }
    let t := after .engineSampleSet (sampled (set true 18000 800 490 0) s)
    s.chan.latest.base = 490 ∧ t.engine.approach = some .cooling ∧ t.chan = s.chan := by decide

/-- A short spike and a short gap inside a pulse of TACH are dropped: one pulse is left (R142). -/
theorem test_glitches :
    pinCommands live .tach [3000, 50000, 400000, 99999, 200000, 100000] =
      [.filteredLevelChange .tach true, .filteredLevelChange .tach false] := by decide

/-- A frame that a RESTART abandoned ends without effect; the next one acts (R166, log entry 8). -/
theorem test_abandoned_frame :
    let s := after (.claim 2 31 0 0) { live with line.abandoned := true }
    s.share = live.share ∧ s.line.abandoned = false ∧
      (after (.claim 2 31 0 0) s).share.rows[(2 : Station)].grant = 0 := by decide

theorem test_claim_bounded :
    (after (.claim 2 31 20 20) live).share.rows[(2 : Station)].grant = 8 := by decide

theorem test_disagreement_calls_for_an_evict :
    let s := after (.presence 2 31 64 0 5 20 none) live
    s.share.pendingEvict = 4 ∧ s.tx.evict = some 4 ∧ s.share.rows[(2 : Station)].grant = 4 := by decide

theorem test_own_eviction :
    let s := after (.evict 2 31 1) live
    s.ownRow.grant = 0 ∧ s.share.usable = 0 ∧ s.inbox.reports = [.lostPower] := by decide

theorem test_offer_and_taken :
    let s := after (.offer none) { live with tx.presence := true }
    (s.line.onLine.map fun f => f.frame.payload.length) = some 17 ∧
      (after .ownFrameTaken s).tx.presence = false ∧ (after .echoFault s).tx.presence = true := by decide

theorem test_unplaced_bad_frame_leaves_live :
    let s := after (.frameFoundBad .unplaced) live
    s.line.participation = .listen ∧ s.journal.entries = [.station 0 0 (.leftLive .unchecked)] := by decide

theorem test_duplicate_number_bars : (after (.mark 0 31 0 0) live).line.participation = .barred := by decide

theorem test_open_and_load :
    let s := after (.openSlot 1 0 (some (3, 1))) live
    s.slots[(3 : Fin 4)].state = .loading ∧
      (after (.stepLoad 1 0 3 0 weighRec) s).tx.reply = some ⟨1, 5, .done, 0, [1, 1, 1, 160]⟩ := by decide

theorem test_unknown_item_detail :
    (after (.unknownItem 1 0 8 0) live).tx.reply = some ⟨1, 6, .unknown, 0, []⟩ := by decide

theorem test_raw_bowl_open_stops_heat_and_motor :
    let s := { heating (set true 18000 490 490 0) with heater.onSlots := 25, stirrer := (stirring .running
      (set true 18000 490 490 0)).stirrer }
    heatGate s = true ∧ heatGate (after .rawBowlOpenHeater s) = false ∧ motorPwm s = 40 ∧
      motorPwm (after .rawBowlOpenStirrer s) = 0 := by decide

theorem test_low_reset_stops_everything :
    let s := after (.resetAsserted ⟨0, true, 0, 0⟩) (running timeRec)
    s.resetN = false ∧ after (.pause 1 0) s = s := ⟨by decide, rfl⟩

end Sys2Proof.Tests
end

-- ==== The promises: what an operation must show ====
section
/-! SUPPORT. Each promise of Safety.lean but the budget's is carried over an operation that leaves alone what it reads; `Keeps`
asks of an operation only the promises it touches. -/

namespace Sys2Proof.Machine

variable {s t u : State}

/-! ## What a filled or emptied transmit slot leaves of the line -/

/-- The mark that a frame is no longer what its slot holds says nothing of whether the station left LIVE. -/
@[simp] theorem left_comp_changed (kind : Fin 16) :
    (LineFrame.left ∘ fun f : LineFrame => if f.frame.kind = kind then { f with changed := true } else f) =
      LineFrame.left := by
  funext f; simp only [Function.comp]; split <;> rfl

@[simp] theorem touchSent_participation (kind : Fin 16) (s : State) :
    (touchSent kind s).line.participation = s.line.participation := rfl

@[simp] theorem syncEvict_line (s : State) :
    (syncEvict s).line.participation = s.line.participation ∧
      (syncEvict s).line.onLine.map LineFrame.left = s.line.onLine.map LineFrame.left := by
  unfold syncEvict; split <;> simp

@[simp] theorem setPendingEvict_line (mask : StationSet) (s : State) :
    (setPendingEvict mask s).line.participation = s.line.participation ∧
      (setPendingEvict mask s).line.onLine.map LineFrame.left = s.line.onLine.map LineFrame.left := by
  unfold setPendingEvict; simp

/-! ## Each promise reads only some fields -/

theorem HoldKept.congr (state : t.engine.state = s.engine.state := by simp)
    (saved : t.engine.saved = s.engine.saved := by simp) (causes : t.engine.causes = s.engine.causes := by simp)
    (h : HoldKept s) : HoldKept t := by
  simpa only [HoldKept, state, saved, causes] using h

theorem SlotLent.congr (active : t.engine.state.active = s.engine.state.active := by simp)
    (slot : t.engine.slot = s.engine.slot := by simp) (slots : t.slots = s.slots := by simp)
    (h : SlotLent s) : SlotLent t := by
  simpa only [SlotLent, active, slot, slots] using h

theorem JournalBounded.congr (active : t.engine.state.active = s.engine.state.active := by simp)
    (journal : t.journal = s.journal := by simp) (h : JournalBounded s) : JournalBounded t := by
  simpa only [JournalBounded, active, journal] using h

theorem OwnRowOwnSet.congr (resetN : t.resetN = s.resetN := by simp) (straps : t.straps = s.straps := by simp)
    (board : t.board = s.board := by simp) (h : OwnRowOwnSet s) : OwnRowOwnSet t := by
  simpa only [OwnRowOwnSet, State.own, resetN, straps, board] using h

theorem HeaterBounded.congr (state : t.engine.state = s.engine.state := by simp)
    (heater : t.heater = s.heater := by simp) (h : HeaterBounded s) : HeaterBounded t := by
  simpa only [HeaterBounded, state, heater] using h

theorem LockedWhenFast.congr (stirrer : t.stirrer = s.stirrer := by simp)
    (locked : t.pins.lidLocked = s.pins.lidLocked := by simp) (h : LockedWhenFast s) : LockedWhenFast t := by
  simpa only [LockedWhenFast, stirrer, locked] using h

theorem MaskSound.congr (resetN : t.resetN = s.resetN := by simp) (straps : t.straps = s.straps := by simp)
    (rows : t.share.rows = s.share.rows := by simp)
    (pendingEvict : t.share.pendingEvict = s.share.pendingEvict := by simp)
    (participation : t.line.participation = s.line.participation := by simp)
    (evict : t.tx.evict = s.tx.evict := by simp) (h : MaskSound s) : MaskSound t := by
  simpa only [MaskSound, State.own, resetN, straps, rows, pendingEvict, participation, evict] using h

/-- The frame on the line is one that the station has not left exactly when its flag says so. -/
theorem onLine_left_iff (s : State) (p : Prop) :
    (∀ f, s.line.onLine = some f → f.left = false → p) ↔ (s.line.onLine.map LineFrame.left = some false → p) := by
  simp only [Option.map_eq_some_iff]
  exact ⟨fun h ⟨f, on, left⟩ => h f on left, fun h f on left => h ⟨f, on, left⟩⟩

theorem GrantOnlyLive.congr (resetN : t.resetN = s.resetN := by simp) (straps : t.straps = s.straps := by simp)
    (rows : t.share.rows = s.share.rows := by simp) (usable : t.share.usable = s.share.usable := by simp)
    (participation : t.line.participation = s.line.participation := by simp)
    (left : t.line.onLine.map LineFrame.left = s.line.onLine.map LineFrame.left := by simp)
    (claim : t.tx.claim = s.tx.claim := by simp) (h : GrantOnlyLive s) : GrantOnlyLive t := by
  simpa only [GrantOnlyLive, onLine_left_iff, State.ownRow, State.own, resetN, straps, rows, usable, participation,
    left, claim] using h

/-! ## Keeping each promise -/

/-- Each promise but the budget's holds of `t` when it holds of `s`. A promise that reads nothing changed is shown by its
congruence. -/
structure Keeps (s t : State) : Prop where
  hold : HoldKept s → HoldKept t := by exact .congr
  lent : SlotLent s → SlotLent t := by exact .congr
  journal : JournalBounded s → JournalBounded t := by exact .congr
  ownRow : OwnRowOwnSet s → OwnRowOwnSet t := by exact .congr
  heater : HeaterBounded s → HeaterBounded t := by exact .congr
  lock : LockedWhenFast s → LockedWhenFast t := by exact .congr
  mask : MaskSound s → MaskSound t := by exact .congr
  grant : GrantOnlyLive s → GrantOnlyLive t := by exact .congr

theorem Keeps.refl (s : State) : Keeps s s := {}

theorem Keeps.trans (first : Keeps s t) (second : Keeps t u) : Keeps s u where
  hold h := second.hold (first.hold h)
  lent h := second.lent (first.lent h)
  journal h := second.journal (first.journal h)
  ownRow h := second.ownRow (first.ownRow h)
  heater h := second.heater (first.heater h)
  lock h := second.lock (first.lock h)
  mask h := second.mask (first.mask h)
  grant h := second.grant (first.grant h)

/-- An operation that acts on a condition keeps what it keeps when it acts. -/
theorem Keeps.ite {c : Prop} [Decidable c] {s a b : State} (act : c → Keeps s a) (idle : ¬c → Keeps s b) :
    Keeps s (if c then a else b) := by
  split
  · exact act ‹_›
  · exact idle ‹_›

/-! ## Plumbing -/

theorem report_keeps (r : Report) (s : State) : Keeps s (report r s) := {}

theorem reportIf_keeps (c : Bool) (r : Report) (s : State) : Keeps s (reportIf c r s) := {}

/-- The reports of the inbox are read by no promise. -/
theorem takeReport_keeps (r : Report) (op : State → State) (keeps : ∀ u, Keeps u (op u)) (s : State) :
    Keeps s (takeReport r op s) :=
  .ite (fun _ => .trans (t := { s with inbox := _ }) {} (keeps _)) fun _ => .refl s

/-- No promise reads the channels. -/
theorem seeing_keeps (seen : Channels) (op : State → State) (keeps : ∀ u, Keeps u (op u)) (s : State) :
    Keeps s (seeing seen op s) := by
  rw [seeing_eq]
  exact .trans (t := { s with chan := seen }) {} (.trans (keeps _) {})

theorem takeHeaterSet_keeps (op : SampleSet → State → State) (keeps : ∀ set u, Keeps u (op set u)) (s : State) :
    Keeps s (takeHeaterSet op s) := by
  unfold takeHeaterSet
  split
  · exact .refl s
  · exact .trans (t := { s with inbox := _ }) {} (keeps _ _)

theorem takeScaleSet_keeps (op : SampleSet → State → State) (keeps : ∀ set u, Keeps u (op set u)) (s : State) :
    Keeps s (takeScaleSet op s) := by
  unfold takeScaleSet
  split
  · exact .refl s
  · exact .trans (t := { s with inbox := _ }) {} (keeps _ _)

theorem takeStirrerSet_keeps (op : SampleSet → State → State) (keeps : ∀ set u, Keeps u (op set u)) (s : State) :
    Keeps s (takeStirrerSet op s) := by
  unfold takeStirrerSet
  split
  · exact .refl s
  · exact .trans (t := { s with inbox := _ }) {} (seeing_keeps _ _ (keeps _) _)

theorem takeEngineSet_keeps (op : SampleSet → State → State) (keeps : ∀ set u, Keeps u (op set u)) (s : State) :
    Keeps s (takeEngineSet op s) := by
  unfold takeEngineSet
  split
  · exact .refl s
  · exact .trans (t := { s with inbox := _ }) {} (seeing_keeps _ _ (keeps _) _)

/-! ## The channels -/

/-- A gate end reads the pins and sets the level of LID_CLOSED alone. -/
theorem gateEndOp_keeps (lidClosed : Bool) (s : State) : Keeps s (gateEndOp lidClosed s) where
  lock := .congr (by simp) (by simp [gateEndOp, gateReports, deliver])

theorem filterChange_keeps (channel : Channel) (level : Bool) (s : State) : Keeps s (filterChange channel level s) where
  lock := .congr (by simp) (by cases channel <;> rfl)

end Sys2Proof.Machine
end

-- ==== The heater and the stirrer keep each promise ====
section
/-! SUPPORT. The units record is within its bounds after each operation of the heater, the stirrer's after each of the stirrer;
every other promise reads neither. -/

namespace Sys2Proof.Machine

variable {s t u : State}

/-! ## The heater (R105 to R107) -/

/-- The units of a heater record are within their bounds (R106, R107). -/
def Heater.Bounded (h : Heater) : Prop :=
  h.applied ≤ h.usable ∧ (h.cut = true → h.applied = 0 ∧ h.onSlots = 0)

theorem heaterBounded_iff (s : State) :
    HeaterBounded s ↔ s.heater.Bounded ∧ (s.heater.regulating = true → s.engine.state = .run) := by
  simp only [HeaterBounded, Heater.Bounded, and_assoc]

theorem Heater.cutPeriod_bounded (h : Heater) : h.cutPeriod.Bounded := ⟨Nat.zero_le _, fun _ => ⟨rfl, rfl⟩⟩

theorem Heater.compute_bounded (h : Heater) (rating count : Nat) (running : h.cut = false) :
    (h.compute rating count).Bounded := by
  refine ⟨?_, by simp [Heater.compute, running]⟩
  simp only [Heater.compute]
  split
  · exact Nat.zero_le _
  · exact Nat.min_le_right _ _

theorem Heater.recompute_bounded {h : Heater} (bounded : h.Bounded) (rating count : Nat) :
    (h.recompute rating count).Bounded := by
  unfold Heater.recompute
  split
  · exact bounded
  · next going => exact h.compute_bounded rating count (by simp_all)

theorem Heater.newPeriod_bounded (h : Heater) (rating count : Nat) (seated : Bool) :
    (h.newPeriod rating count seated).Bounded := by
  simp only [Heater.newPeriod]
  split
  · exact Heater.cutPeriod_bounded _
  · split
    · exact Heater.compute_bounded _ _ _ rfl
    · exact ⟨Nat.zero_le _, fun _ => ⟨rfl, rfl⟩⟩

theorem Heater.take_bounded {h : Heater} (bounded : h.Bounded) (units : Nat) : (h.take units).Bounded := by
  simp only [Heater.take]
  split
  · exact Heater.cutPeriod_bounded _
  · exact ⟨by simp_all, bounded.2⟩

@[simp] theorem Heater.compute_regulating (h : Heater) (rating count : Nat) :
    (h.compute rating count).regulating = h.regulating := rfl

@[simp] theorem Heater.recompute_regulating (h : Heater) (rating count : Nat) :
    (h.recompute rating count).regulating = h.regulating := by
  unfold Heater.recompute; split <;> rfl

@[simp] theorem Heater.newPeriod_regulating (h : Heater) (rating count : Nat) (seated : Bool) :
    (h.newPeriod rating count seated).regulating = h.regulating := by
  simp only [Heater.newPeriod]; (repeat' split) <;> rfl

@[simp] theorem Heater.rampSecond_regulating (h : Heater) : h.rampSecond.regulating = h.regulating := by
  unfold Heater.rampSecond; split <;> rfl

@[simp] theorem Heater.economySecond_regulating (h : Heater) (count : Nat) :
    (h.economySecond count).regulating = h.regulating := by
  unfold Heater.economySecond; (repeat' split) <;> rfl

@[simp] theorem Heater.take_regulating (h : Heater) (units : Nat) : (h.take units).regulating = h.regulating := by
  simp only [Heater.take]; split <;> rfl

@[simp] theorem setWant_heater (want : Nat) (s : State) :
    (setWant want s).heater = { s.heater with want := want } := by simp [setWant_eq]

@[simp] theorem overTempTest_heater (set : SampleSet) (s : State) :
    (overTempTest set s).heater =
      if 1320 ≤ set.base then { s.heater.cutPeriod with overTemp := true } else { s.heater with overTemp := false } := by
  unfold overTempTest; split <;> simp

theorem overTempTest_regulating (set : SampleSet) (s : State) :
    (overTempTest set s).heater.regulating = s.heater.regulating := by
  rw [overTempTest_heater]; split <;> rfl

theorem overTempTest_bounded (set : SampleSet) {s : State} (bounded : s.heater.Bounded) :
    (overTempTest set s).heater.Bounded := by
  rw [overTempTest_heater]
  split
  · exact s.heater.cutPeriod_bounded
  · exact bounded

theorem heaterSecond_regulating (set : SampleSet) (s : State) :
    (heaterSecond set s).heater.regulating = s.heater.regulating := by
  unfold heaterSecond
  split
  · simp only [setWant_heater]; split <;> simp
  · rfl

theorem heaterSetOp_bounded (set : SampleSet) {s : State} (bounded : s.heater.Bounded) :
    (heaterSetOp set s).heater.Bounded := by
  unfold heaterSetOp
  split
  · exact Heater.newPeriod_bounded _ _ _ _
  · exact overTempTest_bounded set bounded

theorem heaterSetOp_regulating (set : SampleSet) (s : State) :
    (heaterSetOp set s).heater.regulating = s.heater.regulating := by
  unfold heaterSetOp
  split
  · simp only [Heater.newPeriod_regulating, heaterSecond_regulating, overTempTest_regulating]
  · exact overTempTest_regulating set s

/-- The heater promise after an operation that neither starts nor stops regulating. -/
theorem HeaterBounded.of_bounded (state : t.engine.state = s.engine.state)
    (regulating : t.heater.regulating = s.heater.regulating) (bounded : s.heater.Bounded → t.heater.Bounded)
    (h : HeaterBounded s) : HeaterBounded t := by
  rw [heaterBounded_iff, state, regulating]
  rw [heaterBounded_iff] at h
  exact ⟨bounded h.1, h.2⟩

theorem heaterSetOp_keeps (set : SampleSet) (s : State) : Keeps s (heaterSetOp set s) where
  heater := .of_bounded (by simp) (heaterSetOp_regulating set s) (heaterSetOp_bounded set)

theorem burstSlotOp_keeps (s : State) : Keeps s (burstSlotOp s) where
  heater := by
    unfold burstSlotOp
    split
    · exact .of_bounded rfl rfl id
    · exact id

theorem bowlOpenHeaterOp_keeps (s : State) : Keeps s (bowlOpenHeaterOp s) where
  heater := .of_bounded rfl rfl fun _ => s.heater.cutPeriod_bounded
  lock := .congr (by simp) rfl

theorem usableUnitsOp_keeps (s : State) : Keeps s (usableUnitsOp s) where
  heater := by
    unfold usableUnitsOp
    split
    · exact id
    · exact .of_bounded rfl (by simp) fun bounded => s.heater.take_bounded bounded _

/-- An off setting keeps every promise: it cuts the period. -/
theorem heaterOff_bounded {s : State} (bounded : s.heater.Bounded) : (heaterOff s).heater.Bounded := by
  unfold heaterOff
  split
  · rw [setWant_heater]; exact s.heater.cutPeriod_bounded
  · exact bounded

/-- With the heater OFF the engine may be in any state. -/
theorem heaterOff_heaterBounded (bounded : s.heater.Bounded) : HeaterBounded (heaterOff s) := by
  rw [heaterBounded_iff]
  exact ⟨heaterOff_bounded bounded, by simp [heaterOff_regulating]⟩

theorem heaterSetpoint_keeps (st : StepRec) (s : State) (run : s.engine.state = .run) :
    Keeps s (heaterSetpoint st s) where
  heater h := by
    rw [heaterBounded_iff] at h ⊢
    simp only [heaterSetpoint, setWant_heater]
    exact ⟨Heater.recompute_bounded (h := s.heater.enter st _) h.1 _ _, fun _ => by simp [run]⟩

theorem heaterResume_keeps (st : StepRec) (saved : SavedContext) (s : State) (run : s.engine.state = .run) :
    Keeps s (heaterResume st saved s) where
  heater h := by
    rw [heaterBounded_iff] at h ⊢
    simp only [heaterResume, setWant_heater]
    exact ⟨Heater.recompute_bounded (h := s.heater.resumed st saved) h.1 _ _, fun _ => by simp [run]⟩

/-! ## The stirrer (R116, R118 to R121) -/

/-- A stirrer record in motion suits its setting and the lock, and a lock request suits its setting. -/
structure Stirrer.Sound (t : Stirrer) (lidLocked : Bool) : Prop where
  driven : t.state.moving = true →
    t.setting.level = t.drivenLevel ∧ t.setting.direction = t.drivenDirection ∧
      needsLock t.drivenLevel = t.lockDriven ∧ (t.lockDriven = true → lidLocked = true)
  asking : t.state = .locking → t.lockDriven = true ∧ needsLock t.setting.level = true

theorem lockedWhenFast_iff (s : State) : LockedWhenFast s ↔ s.stirrer.Sound s.pins.lidLocked :=
  ⟨fun h => ⟨h.1, h.2⟩, fun h => ⟨h.1, h.2⟩⟩

/-- A stirrer that neither moves nor asks for the lock is sound. -/
theorem Stirrer.Sound.of_still {t : Stirrer} {l : Bool} (still : t.state = .stopped ∨ t.state = .stopping) :
    t.Sound l := by
  rcases still with h | h <;> exact ⟨by simp [StirrerState.moving, h], by simp [h]⟩

theorem Stirrer.goStopping_sound (t : Stirrer) (l : Bool) : t.goStopping.Sound l := .of_still (.inr rfl)

theorem Stirrer.startDrive_sound {t : Stirrer} {l : Bool} (need : needsLock t.setting.level = t.lockDriven)
    (locked : t.lockDriven = true → l = true) : t.startDrive.Sound l := by
  simp only [Stirrer.startDrive]
  split <;> exact ⟨fun _ => ⟨rfl, rfl, need, locked⟩, by simp⟩

theorem Stirrer.sensed_sound {t : Stirrer} (driven : t.lockDriven = true) (need : needsLock t.setting.level = true)
    (seated : Bool) : (t.sensed seated).Sound true := by
  simp only [Stirrer.sensed]
  split
  · exact startDrive_sound (t := { t with lockTimer := .stopped }) (need.trans driven.symm) fun _ => rfl
  · exact .of_still (.inl rfl)

/-- A setting handed over in motion is driven with the lock it needs, or the stirrer stops (R120). -/
theorem Stirrer.change_sound {t : Stirrer} {l : Bool} (locked : t.lockDriven = true → l = true)
    (moving : t.state.moving = true) : t.change.Sound l := by
  simp only [Stirrer.change]
  split
  · exact t.goStopping_sound l
  · next suits =>
    push Not at suits
    obtain ⟨-, direction, need⟩ := suits
    split
    · exact startDrive_sound need locked
    · next same =>
      push Not at same
      exact ⟨fun _ => ⟨same.2, direction, same.2 ▸ need, locked⟩,
        fun locking => by simp [locking, StirrerState.moving] at moving⟩

/-- The end of a phase stops the motor or starts the drive of a stirrer that moves (R126). -/
theorem Stirrer.phaseEnd_sound {t : Stirrer} {l : Bool} (sound : t.Sound l) (on : Bool) : (t.phaseEnd on).Sound l := by
  cases on with
  | true =>
    simp only [Stirrer.phaseEnd, if_true]
    split
    · next driven => exact ⟨fun _ => sound.1 (by rcases driven with h | h <;> simp [StirrerState.moving, h]), by simp⟩
    · exact ⟨sound.1, sound.2⟩
  | false =>
    simp only [Stirrer.phaseEnd, Bool.false_eq_true, if_false]
    split
    · next off =>
      obtain ⟨level, -, need, locked⟩ := sound.1 (by simp [StirrerState.moving, off])
      exact startDrive_sound (level ▸ need) locked
    · exact ⟨sound.1, sound.2⟩

theorem Stirrer.patternSecond_sound {t : Stirrer} {l : Bool} (sound : t.Sound l) : t.patternSecond.Sound l := by
  unfold Stirrer.patternSecond
  split
  · exact ⟨sound.1, sound.2⟩
  · split
    · exact phaseEnd_sound sound _
    · exact ⟨sound.1, sound.2⟩

theorem lockRequest_sound (s : State) (need : needsLock s.stirrer.setting.level = true) :
    (lockRequest s).stirrer.Sound s.pins.lidLocked := by
  simp only [lockRequest]
  split
  · split
    · next locked =>
      rw [locked]
      exact Stirrer.sensed_sound (t := { s.stirrer with lockDriven := true, state := .locking, lockTimer := .running })
        rfl need _
    · exact ⟨by simp [StirrerState.moving], fun _ => ⟨rfl, need⟩⟩
  · exact .of_still (.inl rfl)

/-- A stirrer in STOPPED starts the drive only with the lock that its level needs (R119). -/
theorem actOnSetting_sound (s : State) (stopped : s.stirrer.state = .stopped) :
    (actOnSetting s).stirrer.Sound s.pins.lidLocked := by
  have still : s.stirrer.Sound s.pins.lidLocked := .of_still (.inl stopped)
  simp only [actOnSetting]
  split
  · exact still
  split
  · exact still
  split
  · exact still
  split
  · next request => exact lockRequest_sound s (by simp_all)
  · next undriven _ ready =>
    refine Stirrer.startDrive_sound ?_ ?_
    · cases hn : needsLock s.stirrer.setting.level <;> cases hd : s.stirrer.lockDriven <;> simp_all
    · cases hn : needsLock s.stirrer.setting.level <;> simp_all

theorem giveSetting_sound (setting : Setting) (pos : Option PatternPos) {s : State}
    (sound : s.stirrer.Sound s.pins.lidLocked) : (giveSetting setting pos s).stirrer.Sound s.pins.lidLocked := by
  simp only [giveSetting]
  have state : (s.stirrer.take setting pos).state = s.stirrer.state := rfl
  have change (moving : s.stirrer.state.moving = true) :
      (s.stirrer.take setting pos).change.Sound s.pins.lidLocked :=
    Stirrer.change_sound (sound.1 moving).2.2.2 moving
  split
  case h_1 stopped => exact actOnSetting_sound _ stopped
  case h_2 stopping => exact .of_still (.inr stopping)
  case h_3 => exact Stirrer.goStopping_sound _ _
  case h_4 spinup => exact change (by simp [← state, spinup, StirrerState.moving])
  case h_5 running => exact change (by simp [← state, running, StirrerState.moving])
  case h_6 off => exact change (by simp [← state, off, StirrerState.moving])

theorem stoppingSet_sound (set : SampleSet) {s : State} (stopping : s.stirrer.state = .stopping) :
    (stoppingSet set s).stirrer.Sound s.pins.lidLocked := by
  simp only [stoppingSet]
  split
  · exact actOnSetting_sound _ rfl
  · exact .of_still (.inr stopping)

theorem stoppedSet_sound (set : SampleSet) {s : State} (stopped : s.stirrer.state = .stopped) :
    (stoppedSet set s).stirrer.Sound s.pins.lidLocked := by
  simp only [stoppedSet]
  split
  · split
    · exact actOnSetting_sound _ stopped
    · exact .of_still (.inl stopped)
  · exact .of_still (.inl stopped)

theorem runningSet_sound (set : SampleSet) {s : State} (sound : s.stirrer.Sound s.pins.lidLocked) :
    (runningSet set s).stirrer.Sound s.pins.lidLocked := by
  simp only [runningSet]
  split
  · split
    · exact .of_still (.inr rfl)
    · exact ⟨sound.1, sound.2⟩
  · exact ⟨sound.1, sound.2⟩

theorem stirrerStateSet_sound (set : SampleSet) {s : State} (sound : s.stirrer.Sound s.pins.lidLocked) :
    (stirrerStateSet set s).stirrer.Sound s.pins.lidLocked := by
  unfold stirrerStateSet
  split
  case h_1 stopped => exact stoppedSet_sound set stopped
  case h_2 => exact ⟨sound.1, sound.2⟩
  case h_3 => exact ⟨sound.1, sound.2⟩
  case h_4 => exact runningSet_sound set sound
  case h_5 => exact ⟨sound.1, sound.2⟩
  case h_6 stopping => exact stoppingSet_sound set stopping

/-- The lid-sense test writes the lid-sense flag alone. -/
@[simp] theorem lidSenseTest_stirrer (set : SampleSet) (s : State) :
    (lidSenseTest set s).stirrer = { s.stirrer with lidSense := lidContradiction set } := by simp [lidSenseTest]

theorem stirrerSetOp_keeps (set : SampleSet) (s : State) : Keeps s (stirrerSetOp set s) where
  lock h := by
    rw [lockedWhenFast_iff] at h ⊢
    have worked : (stirrerStateSet set (lidSenseTest set s)).stirrer.Sound s.pins.lidLocked := by
      have tested : (lidSenseTest set s).stirrer.Sound (lidSenseTest set s).pins.lidLocked := by
        simp only [lidSenseTest_stirrer, lidSenseTest_frame]; exact ⟨h.1, h.2⟩
      simpa using stirrerStateSet_sound set tested
    simp only [stirrerSetOp]
    split
    · simpa using Stirrer.patternSecond_sound worked
    · simpa using worked

theorem giveSetting_keeps (setting : Setting) (pos : Option PatternPos) (s : State) :
    Keeps s (giveSetting setting pos s) where
  lock h := by
    rw [lockedWhenFast_iff] at h ⊢
    simpa using giveSetting_sound setting pos h

theorem giveStop_keeps (s : State) : Keeps s (giveStop s) := giveSetting_keeps _ _ s

theorem bowlOpenStirrerOp_keeps (s : State) : Keeps s (bowlOpenStirrerOp s) where
  lock h := by
    rw [lockedWhenFast_iff] at h ⊢
    simp only [bowlOpenStirrerOp]
    split
    · exact Stirrer.goStopping_sound _ _
    · exact ⟨h.1, h.2⟩

theorem bowlSeatedOp_keeps (s : State) : Keeps s (bowlSeatedOp s) where
  lock h := by
    rw [lockedWhenFast_iff] at h ⊢
    simp only [bowlSeatedOp]
    split
    · exact ⟨h.1, h.2⟩
    split
    · next stopped =>
      simpa using actOnSetting_sound { s with pins := { s.pins with bowlSeated := true } } stopped
    · exact ⟨h.1, h.2⟩

theorem lockSensedOp_keeps (s : State) : Keeps s (lockSensedOp s) where
  lock h := by
    rw [lockedWhenFast_iff] at h ⊢
    simp only [lockSensedOp]
    split
    · next locking => exact Stirrer.sensed_sound (h.2 locking).1 (h.2 locking).2 _
    · refine ⟨fun moving => ?_, h.2⟩
      obtain ⟨level, direction, need, -⟩ := h.1 moving
      exact ⟨level, direction, need, fun _ => rfl⟩

/-- A stirrer in motion with the lock DRIVEN acts on a drop of the lock (R127). -/
theorem dropActs_of_moving {t : Stirrer} {l : Bool} (sound : t.Sound l) (moving : t.state.moving = true)
    (driven : t.lockDriven = true) : dropActs t = true := by
  obtain ⟨level, -, need, -⟩ := sound.1 moving
  have unlocking : t.state ≠ .locking := fun locking => by simp [locking, StirrerState.moving] at moving
  simp [dropActs, driven, unlocking, level, need]

theorem lockDroppedOp_keeps (s : State) : Keeps s (lockDroppedOp s) where
  lock h := by
    rw [lockedWhenFast_iff] at h ⊢
    simp only [lockDroppedOp]
    split
    · split
      · split
        · exact .of_still (.inr rfl)
        · next acts still =>
          have unlocking : s.stirrer.state ≠ .locking := fun locking => by simp [dropActs, locking] at acts
          exact ⟨fun moving => absurd moving still, fun locking => absurd locking unlocking⟩
      · next idle =>
        refine ⟨fun moving => ?_, h.2⟩
        obtain ⟨level, direction, need, -⟩ := h.1 moving
        exact ⟨level, direction, need, fun driven => absurd (dropActs_of_moving h moving driven) idle⟩
    · exact ⟨h.1, h.2⟩

theorem lockTimerOp_keeps (s : State) : Keeps s (lockTimerOp s) where
  lock h := by
    rw [lockedWhenFast_iff] at h ⊢
    unfold lockTimerOp
    split
    · exact Stirrer.Sound.of_still (.inl rfl)
    · exact ⟨h.1, h.2⟩

theorem spinTimerOp_keeps (s : State) : Keeps s (spinTimerOp s) where
  lock h := by
    rw [lockedWhenFast_iff] at h ⊢
    unfold spinTimerOp
    split
    · next due => exact ⟨fun _ => h.1 (by simp [StirrerState.moving, due.1]), by simp⟩
    · exact ⟨h.1, h.2⟩

end Sys2Proof.Machine
end

-- ==== The scale and the step engine keep each promise ====
section
/-! SUPPORT. The journal's bounds over what is written into it; holds, faults, step entry and step exit, and the commands of the
engine, with what each gives the promises on the run. -/

namespace Sys2Proof.Machine

variable {s t u : State}

/-! ## The journal (R160, R163) -/

/-- No step entry is open. -/
def NoneOpen (s : State) : Prop := s.journal.entries.countP JournalEntry.isOpen = 0

theorem JournalBounded.atMostOne (h : JournalBounded s) : s.journal.entries.countP JournalEntry.isOpen ≤ 1 :=
  h.2.trans (by split <;> omega)

/-- Outside RUN and HOLD no entry is open. -/
theorem JournalBounded.noneOpen (h : JournalBounded s) (idle : s.engine.state.active = false) : NoneOpen s := by
  simpa [idle, NoneOpen] using h.2

/-- With no entry open the engine may be in any state. -/
theorem JournalBounded.of_noneOpen (length : t.journal.entries.length ≤ 32) (closed : NoneOpen t) : JournalBounded t :=
  ⟨length, by rw [closed]; exact Nat.zero_le _⟩

theorem noteEvent_keeps (e : StationEvent) (s : State) : Keeps s (noteEvent e s) where
  journal h := by
    refine ⟨add_length_le h.1 h.atMostOne _, ?_⟩
    simp only [noteEvent_journal, add_countP]
    simpa [JournalEntry.isOpen] using h.2

theorem JournalEntry.isOpen_mapOpen {f : StepEntry → StepEntry} (ending : ∀ e, (f e).ending = e.ending)
    (e : JournalEntry) : (e.mapOpen f).isOpen = e.isOpen := by
  cases e with
  | step e => simp only [JournalEntry.mapOpen]; split <;> simp [JournalEntry.isOpen, ending]
  | station => rfl

/-- A field of the open entry other than its end leaves it open. -/
theorem mapOpen_keeps {f : StepEntry → StepEntry} (ending : ∀ e, (f e).ending = e.ending) (s : State) :
    Keeps s (mapOpen f s) where
  journal h := by
    refine ⟨by simpa using h.1, ?_⟩
    have same : JournalEntry.isOpen ∘ JournalEntry.mapOpen f = JournalEntry.isOpen :=
      funext (JournalEntry.isOpen_mapOpen ending)
    simpa [List.countP_map, same] using h.2

/-- After the closing no entry is open. -/
theorem closeEntry_noneOpen (cause : EndCause) (s : State) : NoneOpen (closeEntry cause s) := by
  rw [NoneOpen, closeEntry, mapOpen_entries, List.countP_map, List.countP_eq_zero]
  intro e _
  cases e with
  | step e => simp only [Function.comp, JournalEntry.mapOpen]; split <;> simp_all [JournalEntry.isOpen]
  | station => simp [Function.comp, JournalEntry.mapOpen, JournalEntry.isOpen]

theorem closeEntry_length (cause : EndCause) (s : State) :
    (closeEntry cause s).journal.entries.length = s.journal.entries.length := mapOpen_length _ s

theorem closeEntry_keeps (cause : EndCause) (s : State) : Keeps s (closeEntry cause s) where
  journal h := .of_noneOpen (by rw [closeEntry_length]; exact h.1) (closeEntry_noneOpen cause s)

theorem notePeak_keeps (count : Nat) (s : State) : Keeps s (notePeak count s) := by
  unfold notePeak; exact mapOpen_keeps (by intro e; rfl) s

theorem countHold_keeps (s : State) : Keeps s (countHold s) := by
  unfold countHold; exact mapOpen_keeps (by intro e; rfl) s

theorem noteAdded_keeps (s : State) : Keeps s (noteAdded s) := by
  unfold noteAdded; exact mapOpen_keeps (by intro e; rfl) s

/-- In RUN or HOLD an entry is opened when none is; only the journal's bounds need that none is. -/
theorem openEntry_keeps (before : Keeps s u) (active : u.engine.state.active = true)
    (closed : JournalBounded s → NoneOpen u) : Keeps s (openEntry u) where
  hold h := .congr (h := before.hold h)
  lent h := .congr (h := before.lent h)
  journal h := by
    have bounded := before.journal h
    have none : u.journal.entries.countP JournalEntry.isOpen = 0 := closed h
    refine ⟨add_length_le bounded.1 bounded.atMostOne _, ?_⟩
    simp [openEntry, add_countP, none, active, JournalEntry.isOpen]
  ownRow h := .congr (h := before.ownRow h)
  heater h := .congr (h := before.heater h)
  lock h := .congr (h := before.lock h)
  mask h := .congr (h := before.mask h)
  grant h := .congr (h := before.grant h)

/-! ## The scale (R132 to R138) -/

theorem satisfiedTest_keeps (s : State) : Keeps s (satisfiedTest s) := {}

theorem countEarly_keeps (s : State) : Keeps s (countEarly s) := {}

theorem plainReference_keeps (count : Nat) (s : State) : Keeps s (plainReference count s) := by
  unfold plainReference
  exact .trans (t := { s with scale := _ }) {} (noteAdded_keeps _)

theorem reReference_keeps (count : Nat) (weight : Int) (s : State) : Keeps s (reReference count weight s) := by
  unfold reReference
  exact .trans (t := { s with scale := _ }) {} (.trans (noteAdded_keeps _) (satisfiedTest_keeps _))

theorem addSet_keeps (count : Nat) (s : State) : Keeps s (addSet count s) := by
  simp only [addSet]
  exact .trans (t := { s with scale := _ }) {} (.trans (noteAdded_keeps _) (satisfiedTest_keeps _))

theorem phaseWork_keeps (count : Nat) (s : State) : Keeps s (phaseWork count s) := by
  unfold phaseWork
  split
  · exact .refl s
  · exact plainReference_keeps count s
  · exact reReference_keeps count _ s
  · exact addSet_keeps count s

theorem phaseSet_keeps (set : SampleSet) (s : State) : Keeps s (phaseSet set s) :=
  .ite (fun _ => .trans (t := if s.scale.uses then phaseWork set.wgt s else s)
    (.ite (fun _ => phaseWork_keeps _ s) fun _ => .refl s) (reportIf_keeps _ _ _)) fun _ => .refl s

theorem scaleSetOp_keeps (set : SampleSet) (s : State) : Keeps s (scaleSetOp set s) :=
  .trans (t := { s with scale := _ }) {} (.trans (phaseSet_keeps set _) (countEarly_keeps _))

/-! ## Slots (R14, R15) -/

/-- The slots with the current one returned: none is RUNNING any more. -/
theorem returnSlot_not_running (lent : SlotLent s) (e : Engine) (slot : e.slot = s.engine.slot) (k : Fin 4) :
    (returnSlot { s with engine := e }).slots[k].state ≠ .running := by
  intro running
  unfold returnSlot at running
  split at running
  · next none => 
    have := (lent k).1 running
    simp_all
  · next j current =>
    by_cases same : j = k
    · subst same; simp [setSlotState] at running
    · have other : j.val ≠ k.val := fun e => same (Fin.ext e)
      have := (lent k).1 (by simpa [setSlotState, Vector.getElem_set_ne, other] using running)
      simp_all

/-- After a START the named slot alone is RUNNING. -/
theorem lentSlots_running (slots : Vector Slot 4) (k i : Fin 4) :
    (lentSlots slots k)[i].state = .running ↔ i = k := by
  simp only [lentSlots, Fin.getElem_fin, Vector.getElem_ofFn]
  split
  · simp_all
  · split <;> simp_all

/-! ## Holds (R79, R86, R88) -/

theorem raiseMark_keeps (m : Fin 32) (s : State) : Keeps s (raiseMark m s) := by
  unfold raiseMark
  exact { ownRow := fun _ _ => by simp [State.own] }

theorem raiseOf_keeps (st : StepRec) (s : State) : Keeps s (raiseOf st s) := by
  unfold raiseOf
  split
  · exact .refl s
  · exact raiseMark_keeps _ s

theorem scaleSuspend_keeps (s : State) : Keeps s (scaleSuspend s) :=
  .ite (fun _ => {}) fun _ => .refl s

theorem scaleEnd_keeps (s : State) : Keeps s (scaleEnd s) := {}

/-- The engine goes from RUN to HOLD with a saved context and a cause, and the heater goes OFF (R86, R103). -/
theorem holdOff_keeps (e : Engine) (run : s.engine.state = .run) (hold : e.state = .hold)
    (slot : e.slot = s.engine.slot) (saved : e.saved.isSome = true) (causes : e.causes ≠ .empty) :
    Keeps s (heaterOff { s with engine := e }) where
  hold _ := by simp [HoldKept, hold, saved, causes]
  lent := .congr (by simp [run, hold, EngineState.active]) (by simp [slot])
  journal := .congr (by simp [run, hold, EngineState.active])
  heater h := heaterOff_heaterBounded ((heaterBounded_iff s).1 h).1

theorem enterHold_keeps (cause : HoldCause) (s : State) (run : s.engine.state = .run) : Keeps s (enterHold cause s) :=
  (holdOff_keeps _ run (by rfl) (by rfl) (by rfl) (by exact holdSet_add_ne_empty _ _)).trans <| (giveStop_keeps _).trans <|
    (scaleSuspend_keeps _).trans <| (noteEvent_keeps _ _).trans <| countHold_keeps _

theorem addHold_keeps (cause : HoldCause) (s : State) (hold : s.engine.state = .hold) : Keeps s (addHold cause s) :=
  .ite (fun _ => { hold := fun h => by simpa [HoldKept] using h })
    fun _ => .trans (t := { s with engine := _ })
      { hold := fun h => by simpa [HoldKept, hold, holdSet_add_ne_empty] using h.1 } (noteEvent_keeps _ _)

theorem raiseHold_keeps (cause : HoldCause) (s : State) : Keeps s (raiseHold cause s) := by
  unfold raiseHold
  split
  case h_1 run => exact enterHold_keeps cause s run
  case h_2 hold => exact addHold_keeps cause s hold
  all_goals exact .refl s

theorem raiseWhen_keeps (cause : HoldCause) (suits : State → Bool) (s : State) : Keeps s (raiseWhen cause suits s) :=
  .ite (fun _ => raiseHold_keeps cause s) fun _ => .refl s

theorem foldl_keeps {α : Type} (f : State → α → State) (keeps : ∀ a u, Keeps u (f u a)) (l : List α) (s : State) :
    Keeps s (l.foldl f s) := by
  induction l generalizing s with
  | nil => exact .refl s
  | cons a l ih => exact (keeps a s).trans (ih _)

/-! ## Step entry and exit (R29, R41, R42) -/

/-- What no counter of a step touches of the engine record. -/
structure SameHold (e e' : Engine) : Prop where
  state : e'.state = e.state
  slot : e'.slot = e.slot
  saved : e'.saved = e.saved
  causes : e'.causes = e.causes

/-- The engine's counters, its step and what the panel reads are read by no promise. -/
theorem engine_keeps {e : Engine} (same : SameHold s.engine e) : Keeps s { s with engine := e } where
  hold := .congr same.state same.saved same.causes
  lent := .congr (by simp [same.state]) same.slot
  journal := .congr (by simp [same.state])
  heater := .congr same.state

theorem scaleEnter_keeps (st : StepRec) (s : State) : Keeps s (scaleEnter st s) := {}

theorem enterStep_keeps (st : StepRec) (before : Keeps s u) (run : u.engine.state = .run)
    (closed : JournalBounded s → NoneOpen u) : Keeps s (enterStep st u) :=
  (openEntry_keeps before (by simp [run, EngineState.active]) closed).trans <|
    (heaterSetpoint_keeps st _ (by simpa using run)).trans <| (giveSetting_keeps _ _ _).trans <|
      (scaleEnter_keeps st _).trans <| engine_keeps ⟨by rfl, by rfl, by rfl, by rfl⟩

/-- A step is entered in RUN from a state whose entries are closed. -/
theorem stepEntry_keeps (before : Keeps s u) (run : u.engine.state = .run) (closed : JournalBounded s → NoneOpen u) :
    Keeps s (stepEntry u) := by
  unfold stepEntry
  split
  · exact before
  · exact (enterStep_keeps _ before run closed).trans (foldl_keeps _ raiseHold_keeps _ _)

/-- The run ends: its slot is returned, the heater goes OFF (R15, R42, R44). -/
theorem runOff_keeps (e : Engine) (closed : NoneOpen s) (idle : e.state.active = false)
    (slot : e.slot = s.engine.slot) (unheld : HoldKept s → e.saved = none ∧ e.causes = .empty) :
    Keeps s (heaterOff (returnSlot { s with engine := e })) where
  hold h := by
    have unholding : e.state ≠ .hold := fun hold => by simp [hold, EngineState.active] at idle
    simp [HoldKept, unheld h, unholding]
  lent h k := by simpa [idle] using returnSlot_not_running h e slot k
  journal h := .of_noneOpen (by simpa using h.1) (by simpa [NoneOpen] using closed)
  heater h := heaterOff_heaterBounded (by simpa using ((heaterBounded_iff s).1 h).1)

theorem runEnded_keeps (s : State) (run : s.engine.state = .run) (closed : NoneOpen s) : Keeps s (runEnded s) :=
  (runOff_keeps _ closed (by rfl) (by rfl) fun h => by simpa [HoldKept, run, Engine.clearStep] using h).trans (giveStop_keeps _)

theorem stepExit_keeps (cause : EndCause) (st : StepRec) (s : State) (run : s.engine.state = .run) :
    Keeps s (stepExit cause st s) := by
  have left : Keeps s (scaleEnd (closeEntry cause (raiseOf st s))) :=
    (raiseOf_keeps st s).trans <| (closeEntry_keeps cause _).trans <| scaleEnd_keeps _
  have closed : NoneOpen (scaleEnd (closeEntry cause (raiseOf st s))) := by
    simpa [NoneOpen] using closeEntry_noneOpen cause (raiseOf st s)
  refine left.trans (.ite (fun _ => ?_) fun _ => runEnded_keeps _ (by simpa using run) closed)
  exact stepEntry_keeps (engine_keeps ⟨rfl, rfl, rfl, rfl⟩) (by simpa using run) fun _ => closed

/-! ## START and ABORT (R26, R44) -/

theorem abortRun_keeps (s : State) : Keeps s (abortRun s) :=
  (closeEntry_keeps .aborted s).trans <|
    (runOff_keeps _ (closeEntry_noneOpen .aborted s) (by rfl) (by rfl) fun _ => by exact ⟨rfl, rfl⟩).trans <|
      (giveStop_keeps _).trans <| scaleEnd_keeps _

theorem supersede_noneOpen (h : JournalBounded s) : NoneOpen (supersede s) := by
  unfold supersede
  split
  · exact closeEntry_noneOpen _ _
  · next idle => exact h.noneOpen (by simpa using idle)

theorem supersede_length (s : State) : (supersede s).journal.entries.length = s.journal.entries.length := by
  unfold supersede
  split
  · exact closeEntry_length _ _
  · rfl

theorem supersede_unheld (h : HoldKept s) :
    (supersede s).engine.saved = none ∧ (supersede s).engine.causes = .empty := by
  unfold supersede
  split
  · simp
  · next idle =>
    have unholding : s.engine.state ≠ .hold := fun hold => by simp [hold, EngineState.active] at idle
    simpa [HoldKept, unholding] using h

/-- The state in which a START enters its first step (R26 items 1 to 3). -/
def startReady (k : Fin 4) (tag : Byte) (mask : StationSet) (s : State) : State :=
  let s := supersede s
  let s := clearBoard { s with
    slots := lentSlots s.slots k
    engine := { s.engine with tag := tag, mask := mask } }
  { s with engine := { s.engine with clock := 0, slot := some k, index := 0, state := .run } }

theorem startRun_eq (k : Fin 4) (tag : Byte) (mask : StationSet) (s : State) :
    startRun k tag mask s = stepEntry (startReady k tag mask s) := rfl

theorem startReady_noneOpen (k : Fin 4) (tag : Byte) (mask : StationSet) (h : JournalBounded s) :
    NoneOpen (startReady k tag mask s) := by
  simpa [startReady, NoneOpen] using supersede_noneOpen h

theorem startReady_keeps (k : Fin 4) (tag : Byte) (mask : StationSet) (s : State) :
    Keeps s (startReady k tag mask s) where
  hold h := by simp [HoldKept, startReady, supersede_unheld h]
  lent _ i := by
    have running := lentSlots_running (supersede s).slots k i
    simpa [startReady, EngineState.active, eq_comm] using running
  journal h := .of_noneOpen (by simpa [startReady, supersede_length] using h.1) (startReady_noneOpen k tag mask h)
  ownRow _ _ := by simp [startReady, clearBoard, Board.reset]
  heater h := by
    rw [heaterBounded_iff] at h ⊢
    exact ⟨by simpa [startReady] using h.1, fun _ => rfl⟩
  lock := .congr (by simp [startReady]) (by simp [startReady])
  mask := by simp only [startReady, clearBoard]; exact .congr
  grant := by simp only [startReady, clearBoard]; exact .congr

theorem startRun_keeps (k : Fin 4) (tag : Byte) (mask : StationSet) (s : State) : Keeps s (startRun k tag mask s) :=
  startRun_eq k tag mask s ▸ stepEntry_keeps (startReady_keeps k tag mask s) rfl (startReady_noneOpen k tag mask)

/-- A RESUME goes from HOLD to RUN (R90). -/
theorem resumeStep_keeps (st : StepRec) (saved : SavedContext) (s : State) (hold : s.engine.state = .hold) :
    Keeps s (resumeStep st saved s) := by
  have restored : Keeps s { s with engine := s.engine.restore saved } :=
    { hold := fun _ => by simp [HoldKept, Engine.restore]
      lent := .congr (by simp [hold, Engine.restore, EngineState.active]) rfl
      journal := .congr (by simp [hold, Engine.restore, EngineState.active])
      heater := fun h => (heaterBounded_iff _).2 ⟨((heaterBounded_iff s).1 h).1, fun _ => rfl⟩ }
  have scale (u : State) : Keeps u (scaleResume saved u) := by
    unfold scaleResume
    split <;> exact {}
  exact restored.trans <| (heaterResume_keeps st saved _ rfl).trans <| (giveSetting_keeps _ _ _).trans <|
    (scale _).trans <| noteEvent_keeps _ _

/-! ## Faults (R94 to R97) -/

theorem faultRun_engine (s : State) : (faultRun s).engine =
    if s.engine.state.active then { s.engine with saved := none, causes := .empty } else s.engine := by
  unfold faultRun; split <;> simp

theorem faultRun_unheld (h : HoldKept s) :
    (faultRun s).engine.saved = none ∧ (faultRun s).engine.causes = .empty := by
  rw [faultRun_engine]
  split
  · exact ⟨rfl, rfl⟩
  · next idle =>
    have unholding : s.engine.state ≠ .hold := fun hold => by simp [hold, EngineState.active] at idle
    simpa [HoldKept, unholding] using h

theorem faultRun_not_running (h : SlotLent s) (k : Fin 4) : (faultRun s).slots[k].state ≠ .running := by
  unfold faultRun
  split
  · simpa using returnSlot_not_running h { s.engine with saved := none, causes := .empty } rfl k
  · next idle => exact fun running => idle ((h k).1 running).1

theorem faultRun_length (s : State) : (faultRun s).journal.entries.length = s.journal.entries.length := by
  unfold faultRun
  split
  · rw [closeEntry_length]; simp
  · rfl

theorem faultRun_noneOpen (h : JournalBounded s) : NoneOpen (faultRun s) := by
  unfold faultRun
  split
  · exact closeEntry_noneOpen _ _
  · next idle => exact h.noneOpen (by simpa using idle)

/-- The engine in FAULT: without a step, a saved context or a cause (R95). -/
theorem latchFault_engine_eq (code : FaultCode) (s : State) : (latchFault code s).engine =
    { (faultRun s).engine.clearStep with state := .fault, fault := some code } := by
  simp [latchFault]

theorem latchFault_keeps (code : FaultCode) (s : State) : Keeps s (latchFault code s) where
  hold h := by simp [HoldKept, latchFault_engine_eq, Engine.clearStep, faultRun_unheld h]
  lent h k := by
    have ended := faultRun_not_running h k
    simpa [latchFault, EngineState.active] using ended
  journal h := by
    refine (noteEvent_keeps _ _).journal (.of_noneOpen ?_ ?_)
    · simpa [faultRun_length] using h.1
    · simpa [NoneOpen] using faultRun_noneOpen h
  heater h := by
    have off := heaterOff_heaterBounded (s := faultRun s) (by simpa using ((heaterBounded_iff s).1 h).1)
    rw [heaterBounded_iff] at off ⊢
    refine ⟨by simpa [latchFault] using off.1, ?_⟩
    simp [latchFault, heaterOff_regulating]
  lock h := by
    have stopped := (giveStop_keeps (heaterOff (faultRun s))).lock (.congr (h := h))
    exact .congr (by simp [latchFault]) (by simp [latchFault]) stopped

theorem faultReport_keeps (code : FaultCode) (s : State) : Keeps s (faultReport code s) :=
  .ite (fun _ => noteEvent_keeps _ s) fun _ => latchFault_keeps code s

theorem testFaults_keeps (codes : List FaultCode) (s : State) : Keeps s (testFaults codes s) :=
  foldl_keeps _ (fun code u => .ite (fun _ => faultReport_keeps code u) fun _ => .refl u) codes s

/-- Outside RUN and HOLD the engine may go to any such state. -/
theorem engine_idle_keeps (e : Engine) (before : s.engine.state.active = false) (after : e.state.active = false)
    (slot : e.slot = s.engine.slot) (saved : e.saved = s.engine.saved) (causes : e.causes = s.engine.causes) :
    Keeps s { s with engine := e } where
  hold h := by
    have was : s.engine.state ≠ .hold := fun hold => by simp [hold, EngineState.active] at before
    have now : e.state ≠ .hold := fun hold => by simp [hold, EngineState.active] at after
    simpa [HoldKept, was, now, saved, causes] using h
  lent := .congr (by simp [before, after]) slot
  journal := .congr (by simp [before, after])
  heater h := by
    rw [heaterBounded_iff] at h ⊢
    exact ⟨h.1, fun on => by simp [h.2 on, EngineState.active] at before⟩

theorem clearFault_keeps (code : FaultCode) (s : State) (fault : s.engine.state = .fault) :
    Keeps s (clearFault code s) :=
  (engine_idle_keeps _ (by simp [fault, EngineState.active]) (by rfl) (by rfl) (by rfl) (by rfl)).trans <|
    (noteEvent_keeps _ _).trans <| testFaults_keeps _ _

/-! ## Sample sets and reports (R31 to R39) -/

theorem targetTest_sameHold (e : Engine) (target : Nat) (set : SampleSet) : SameHold e (e.targetTest target set) := by
  unfold Engine.targetTest; split <;> exact ⟨rfl, rfl, rfl, rfl⟩

theorem accumulate_sameHold (e : Engine) (threshold : Nat) (reading : Option Nat) :
    SameHold e (e.accumulate threshold reading) := by
  unfold Engine.accumulate; (repeat' split) <;> exact ⟨rfl, rfl, rfl, rfl⟩

theorem phaseCount_sameHold (before : Phase) (st : StepRec) (s : State) (set : SampleSet) (e : Engine) :
    SameHold e (phaseCount before st s set e) := by
  unfold phaseCount
  split
  · exact ⟨rfl, rfl, rfl, rfl⟩
  · exact accumulate_sameHold _ _ _
  · exact ⟨rfl, rfl, rfl, rfl⟩

theorem SameHold.trans {e e' e'' : Engine} (first : SameHold e e') (second : SameHold e' e'') : SameHold e e'' :=
  ⟨second.state.trans first.state, second.slot.trans first.slot, second.saved.trans first.saved,
    second.causes.trans first.causes⟩

/-- The counters of a sample set leave the engine's state, slot and hold (R31). -/
theorem runCounts_sameHold (st : StepRec) (set : SampleSet) (s : State) : SameHold s.engine (runCounts st set s) := by
  simp only [runCounts]
  split
  · have ticked : SameHold s.engine { s.engine.tick with timeout := min 65535 (s.engine.timeout + 1) } :=
      ⟨rfl, rfl, rfl, rfl⟩
    exact ticked.trans ((targetTest_sameHold _ _ _).trans (phaseCount_sameHold _ _ _ _ _))
  · exact targetTest_sameHold _ _ _

@[simp] theorem engineProgress_engine (st : StepRec) (set : SampleSet) (s : State) :
    (engineProgress st set s).engine = runCounts st set s := by simp [engineProgress]

theorem engineProgress_keeps (st : StepRec) (set : SampleSet) (s : State) : Keeps s (engineProgress st set s) :=
  (engine_keeps (runCounts_sameHold st set s)).trans (notePeak_keeps _ _)

theorem timeoutAct_keeps (st : StepRec) (s : State) (run : s.engine.state = .run) : Keeps s (timeoutAct st s) :=
  .ite (fun _ => stepExit_keeps _ st s run) fun _ => latchFault_keeps _ s

theorem runSet_keeps (st : StepRec) (set : SampleSet) (s : State) (run : s.engine.state = .run) :
    Keeps s (runSet st set s) := by
  have going : (engineProgress st set s).engine.state = .run := by
    rw [engineProgress_engine, (runCounts_sameHold st set s).state, run]
  exact (engineProgress_keeps st set s).trans <| .ite (fun _ => stepExit_keeps _ st _ going) fun _ =>
    .ite (fun _ => timeoutAct_keeps st _ going) fun _ => .refl _

theorem holdSet_keeps (set : SampleSet) (s : State) : Keeps s (holdSet set s) :=
  .trans (.ite (fun _ => engine_keeps (e := s.engine.tick) ⟨rfl, rfl, rfl, rfl⟩) fun _ => .refl s) (notePeak_keeps _ _)

theorem engineSetOp_keeps (set : SampleSet) (s : State) : Keeps s (engineSetOp set s) := by
  unfold engineSetOp
  split
  case h_1 run =>
    split
    · exact .refl s
    · exact runSet_keeps _ set s run
  case h_2 => exact holdSet_keeps set s
  all_goals exact .refl s

theorem addSatisfiedOp_keeps (s : State) : Keeps s (addSatisfiedOp s) := by
  unfold addSatisfiedOp
  split
  · exact .refl s
  · exact .ite (fun applies => stepExit_keeps _ _ s (by simp_all [addApplies])) fun _ => .refl s

end Sys2Proof.Machine
end

-- ==== The share table and the line keep each promise ====
section
/-! SUPPORT. What a row, the pending evict mask, the waiting CLAIM and a change of participation must show for the promises on
the share table, and from these each operation of the share unit, of the line controller and of the mark board. -/

namespace Sys2Proof.Machine

variable {s t u : State}

/-! ## The promises on the share table, with the own station named -/

/-- `MaskSound` without the EVICT slot. -/
def MaskFits (s : State) : Prop :=
  s.resetN = true →
    (∀ i : Station, s.share.rows[i].status = .self ↔ i = s.own) ∧
    (∀ i : Station, s.share.pendingEvict.getLsbD i.val = true → s.share.rows[i].status = .present) ∧
    (s.line.participation ≠ .live → s.share.pendingEvict = 0)

theorem maskSound_iff (s : State) :
    MaskSound s ↔ MaskFits s ∧ (s.resetN = true → s.tx.evict = evictFor s.share.pendingEvict) := by
  simp only [MaskSound, MaskFits, ← forall_and, and_assoc]

/-- `GrantOnlyLive` without the usable units. -/
def GrantFits (s : State) : Prop :=
  s.resetN = true →
    (s.line.participation ≠ .live → s.ownRow.grant = 0 ∧ s.tx.claim = none) ∧
    (s.line.onLine.map LineFrame.left = some false → s.line.participation = .live)

theorem grantOnlyLive_iff (s : State) :
    GrantOnlyLive s ↔
      GrantFits s ∧ (s.resetN = true → s.share.usable = usableUnits s.ownRow.grant s.tx.claim) := by
  simp only [GrantOnlyLive, GrantFits, onLine_left_iff, ← forall_and, and_assoc]

/-! ## Rows -/

/-- A row takes the place of another without a touch on which row is SELF and with a PRESENT one still PRESENT. -/
structure Row.Follows (old new : Row) : Prop where
  self : new.status = .self ↔ old.status = .self
  present : old.status = .present → new.status = .present

theorem Row.follows_of_status {old new : Row} (same : new.status = old.status) : old.Follows new :=
  ⟨by rw [same], fun was => same.trans was⟩

/-- A row written over the created row of its station, with that row's status (R57). -/
theorem Row.follows_of_created {old new : Row} (status : new.status = old.orCreated.status) : old.Follows new := by
  unfold Row.orCreated at status
  split at status
  · next absent => exact ⟨by simp [status, Row.created, absent], by simp [absent]⟩
  · exact follows_of_status status

theorem Row.orCreated_not_absent (r : Row) : r.orCreated.status ≠ .absent := by
  unfold Row.orCreated
  split
  · simp [Row.created]
  · next known => exact known

theorem setRow_row (i j : Station) (r : Row) (s : State) :
    (setRow i r s).share.rows[j] = if i = j then r else s.share.rows[j] := by
  split
  · next same => subst same; exact setRow_at i r s
  · next other => exact setRow_at_ne other r s

theorem setRow_maskFits (i : Station) {r : Row} (follows : s.share.rows[i].Follows r) (h : MaskFits s) :
    MaskFits (setRow i r s) := by
  intro resetN
  obtain ⟨self, present, outside⟩ := h (by simpa using resetN)
  have each (j : Station) : s.share.rows[j].Follows (setRow i r s).share.rows[j] := by
    rw [setRow_row]
    split
    · next same => subst same; exact follows
    · exact Row.follows_of_status rfl
  refine ⟨fun j => ?_, fun j bit => (each j).present (present j (by simpa using bit)), by simpa using outside⟩
  rw [(each j).self, self j]
  simp [State.own]

theorem setRow_ownRow (i : Station) (r : Row) (s : State) (grant : i = s.own → r.grant = s.ownRow.grant) :
    (setRow i r s).ownRow.grant = s.ownRow.grant := by
  have own : (setRow i r s).own = s.own := own_of_straps (by simp)
  simp only [State.ownRow, own, setRow_row]
  split
  · next same => exact grant same
  · rfl

/-- A row is replaced by one that follows it, the own row with its grant. -/
theorem setRow_keeps (i : Station) (r : Row) (s : State) (follows : s.share.rows[i].Follows r)
    (grant : i = s.own → r.grant = s.ownRow.grant) : Keeps s (setRow i r s) where
  mask h := by
    rw [maskSound_iff] at h ⊢
    exact ⟨setRow_maskFits i follows h.1, by simpa using h.2⟩
  grant h := by
    rw [grantOnlyLive_iff] at h ⊢
    simpa only [GrantFits, setRow_ownRow i r s grant, setRow_share, setRow_frame] using h

/-! ## The pending evict mask (R62) -/

/-- The EVICT slot follows a sound mask. -/
theorem syncEvict_maskSound (h : MaskFits s) : MaskSound (syncEvict s) := by
  rw [maskSound_iff]
  exact ⟨by simpa [MaskFits, State.own] using h, fun _ => by simp [syncEvict_evict]⟩

/-- A mask fits that names stations already pending or, in LIVE, PRESENT ones. -/
theorem MaskFits.of_names (mask : StationSet) (h : MaskFits s)
    (names : s.resetN = true → ∀ i : Station, mask.getLsbD i.val = true →
      s.share.pendingEvict.getLsbD i.val = true ∨
        (s.share.rows[i].status = .present ∧ s.line.participation = .live)) :
    MaskFits { s with share := { s.share with pendingEvict := mask } } := by
  intro high
  obtain ⟨self, present, outside⟩ := h high
  refine ⟨self, fun i bit => (names high i bit).elim (present i) And.left, fun away => ?_⟩
  apply BitVec.eq_of_getLsbD_eq
  intro i hi
  cases bit : mask.getLsbD i with
  | false => simp
  | true =>
    rcases names high ⟨i, hi⟩ bit with pending | ⟨-, live⟩
    · simp [outside away] at pending
    · exact absurd live away

theorem setPendingEvict_keeps (mask : StationSet) (s : State)
    (names : MaskFits s → s.resetN = true → ∀ i : Station, mask.getLsbD i.val = true →
      s.share.pendingEvict.getLsbD i.val = true ∨
        (s.share.rows[i].status = .present ∧ s.line.participation = .live)) :
    Keeps s (setPendingEvict mask s) where
  mask h :=
    have fits := ((maskSound_iff s).1 h).1
    syncEvict_maskSound (fits.of_names mask (names fits))
  grant := .congr (by simp) (by simp) (by simp [setPendingEvict_share]) (by simp [setPendingEvict_share]) (by simp)
    (by simp) (by simp [setPendingEvict_tx])

theorem dropPending_keeps (i : Station) (s : State) : Keeps s (dropPending i s) :=
  setPendingEvict_keeps _ s fun _ _ j bit => .inl (by simp at bit; exact bit.1)

theorem stationBit_getLsbD (i j : Station) : (stationBit i).getLsbD j.val = true ↔ j = i := by
  revert i j; decide

theorem addPending_keeps (i : Station) (s : State) (live : s.line.participation = .live)
    (present : MaskFits s → s.resetN = true → s.share.rows[i].status = .present) : Keeps s (addPending i s) :=
  setPendingEvict_keeps _ s fun fits resetN j bit => by
    rw [BitVec.getLsbD_or, Bool.or_eq_true, stationBit_getLsbD] at bit
    rcases bit with pending | rfl
    · exact .inl pending
    · exact .inr ⟨present fits resetN, live⟩

/-! ## Usable units and the waiting CLAIM (R64, R68) -/

@[simp] theorem setUsable_share (units : Nat) (s : State) :
    (setUsable units s).share = { s.share with usable := units } := by simp [setUsable_eq]

@[simp] theorem refreshUsable_share (s : State) :
    (refreshUsable s).share = { s.share with usable := usableUnits s.ownRow.grant s.tx.claim } := by
  simp [refreshUsable]

@[simp] theorem touchSent_fits (kind : Fin 16) (s : State) :
    (touchSent kind s).line.onLine.map LineFrame.left = s.line.onLine.map LineFrame.left := by simp

/-- Usable units follow the own grant and the waiting CLAIM once they are recomputed. -/
theorem refreshUsable_grantOnlyLive (h : GrantFits s) : GrantOnlyLive (refreshUsable s) := by
  rw [grantOnlyLive_iff]
  exact ⟨by simpa [GrantFits, State.ownRow, State.own] using h, fun _ => by simp [State.ownRow, State.own]⟩

/-- In LIVE any CLAIM may wait. -/
theorem setClaimSlot_grantFits (c : Option ClaimFrame) (live : s.line.participation = .live) :
    GrantFits (setClaimSlot c s) := by
  simp [GrantFits, live]

theorem review_keeps (s : State) (live : s.line.participation = .live) : Keeps s (review s) := by
  simp only [review]
  exact { grant := fun _ => refreshUsable_grantOnlyLive (setClaimSlot_grantFits _ live) }

/-! ## The share unit's operations (R53 to R76) -/

theorem heardFrom_keeps (src : Station) (s : State) : Keeps s (heardFrom src s) := by
  refine .ite (fun _ => ?_) fun _ => .refl s
  refine .trans (setRow_keeps src _ s (by exact Row.follows_of_status rfl) ?_) (dropPending_keeps src _)
  rintro rfl; rfl

/-- A source whose frame is handed to a block: another station, or none while BARRED (R172). -/
def FromPeer (src : Station) (s : State) : Prop := src ≠ s.own ∨ s.line.participation = .barred

theorem FromPeer.ne_own {src : Station} (peer : FromPeer src s) (hears : s.line.participation ≠ .barred) : src ≠ s.own :=
  peer.resolve_right hears

theorem claimOp_keeps (src : Station) (requested want : Byte) (s : State) (peer : FromPeer src s) :
    Keeps s (claimOp src requested want s) := by
  unfold claimOp
  split
  case h_1 live =>
    exact setRow_keeps src _ s (Row.follows_of_created (by rfl)) fun own => absurd own (peer.ne_own (by simp [live]))
  case h_2 listen =>
    refine setRow_keeps src _ s ?_ fun own => absurd own (peer.ne_own (by simp [listen]))
    simp only [listenedClaimRow]
    split <;> exact Row.follows_of_created (by rfl)
  all_goals exact .refl s

theorem evictedRows_row (rows : Vector Row 16) (own : Station) (mask : StationSet) (i : Station) :
    (evictedRows rows own mask)[i] = if i ≠ own ∧ mask.getLsbD i.val then Row.absent else rows[i] := by
  simp [evictedRows]

/-- The state in which an EVICT has taken its rows out of the table, with the pending evict mask it leaves. -/
def withoutRows (mask pending : StationSet) (s : State) : State :=
  { s with share := { s.share with rows := evictedRows s.share.rows s.own mask, pendingEvict := pending } }

/-- `withoutRows` changes only: share, and there rows and pendingEvict. -/
@[simp] theorem withoutRows_frame (mask pending : StationSet) (s : State) :
    (withoutRows mask pending s).resetN = s.resetN ∧ (withoutRows mask pending s).straps = s.straps ∧
      (withoutRows mask pending s).pins = s.pins ∧ (withoutRows mask pending s).heater = s.heater ∧
      (withoutRows mask pending s).stirrer = s.stirrer ∧ (withoutRows mask pending s).engine = s.engine ∧
      (withoutRows mask pending s).slots = s.slots ∧ (withoutRows mask pending s).line = s.line ∧
      (withoutRows mask pending s).tx = s.tx ∧ (withoutRows mask pending s).board = s.board ∧
      (withoutRows mask pending s).journal = s.journal ∧
      (withoutRows mask pending s).share.usable = s.share.usable ∧
      (withoutRows mask pending s).share.pendingEvict = pending := by
  simp [withoutRows]

@[simp] theorem withoutRows_own (mask pending : StationSet) (s : State) : (withoutRows mask pending s).own = s.own := rfl

theorem withoutRows_row (mask pending : StationSet) (s : State) (i : Station) :
    (withoutRows mask pending s).share.rows[i] =
      if i ≠ s.own ∧ mask.getLsbD i.val then Row.absent else s.share.rows[i] := evictedRows_row _ _ _ i

@[simp] theorem withoutRows_ownRow (mask pending : StationSet) (s : State) :
    (withoutRows mask pending s).ownRow = s.ownRow := by
  simp only [State.ownRow, withoutRows_own, withoutRows_row]; simp

theorem withoutRows_maskFits (mask pending : StationSet) (h : MaskFits s)
    (names : ∀ i : Station, pending.getLsbD i.val = true →
      s.share.pendingEvict.getLsbD i.val = true ∧ mask.getLsbD i.val = false)
    (outside : s.share.pendingEvict = 0 → pending = 0) : MaskFits (withoutRows mask pending s) := by
  intro high
  obtain ⟨self, present, away⟩ := h (by simpa using high)
  simp only [withoutRows_frame, withoutRows_own, withoutRows_row]
  refine ⟨fun i => ?_, fun i bit => ?_, fun p => outside (away p)⟩
  · split
    · next out => simp [Row.absent, out.1]
    · exact self i
  · obtain ⟨was, kept⟩ := names i bit
    rw [if_neg (by rw [kept]; simp)]
    exact present i was

theorem withoutRows_grantOnlyLive (mask pending : StationSet) (h : GrantOnlyLive s) :
    GrantOnlyLive (withoutRows mask pending s) := by
  rw [grantOnlyLive_iff] at h ⊢
  simpa only [GrantFits, withoutRows_ownRow, withoutRows_frame] using h

theorem setOwnGrant_maskSound (grant : Nat) (h : MaskSound s) : MaskSound (setOwnGrant grant s) := by
  rw [maskSound_iff] at h ⊢
  exact ⟨setRow_maskFits _ (by exact Row.follows_of_status rfl) h.1, by simpa using h.2⟩

/-- The station's own eviction takes its grant, its CLAIM and its usable units to nothing (R58). -/
theorem ownEviction_keeps (src : Station) (s : State) : Keeps s (ownEviction src s) where
  journal h := .congr (h := (noteEvent_keeps (.evicted src) s).journal h) (by simp) (by simp [ownEviction])
  mask h := .congr (h := setOwnGrant_maskSound 0 h) (by simp) (by simp) (by simp [ownEviction]) (by simp [ownEviction])
    (by simp [ownEviction]) (by simp [ownEviction])
  grant h := by
    rw [grantOnlyLive_iff] at h ⊢
    simpa [GrantFits, ownEviction, State.ownRow, State.own, usableUnits] using fun resetN => (h.1 resetN).2

theorem evictLive_eq (src : Station) (mask : StationSet) (s : State) : evictLive src mask s =
    if mask.getLsbD s.own.val then ownEviction src (syncEvict (withoutRows mask (s.share.pendingEvict &&& ~~~mask) s))
    else syncEvict (withoutRows mask (s.share.pendingEvict &&& ~~~mask) s) := rfl

theorem evictLive_maskSound (src : Station) (mask : StationSet) (h : MaskFits s) : MaskSound (evictLive src mask s) := by
  have out := syncEvict_maskSound (withoutRows_maskFits mask (s.share.pendingEvict &&& ~~~mask) h
    (fun i bit => by simpa using bit) (fun none => by simp [none]))
  rw [evictLive_eq]
  split
  · exact (ownEviction_keeps src _).mask out
  · exact out

theorem evictLive_grantOnlyLive (src : Station) (mask : StationSet) (h : GrantOnlyLive s) :
    GrantOnlyLive (evictLive src mask s) := by
  have out : GrantOnlyLive (syncEvict (withoutRows mask (s.share.pendingEvict &&& ~~~mask) s)) :=
    .congr (h := withoutRows_grantOnlyLive mask (s.share.pendingEvict &&& ~~~mask) h) (claim := by rw [syncEvict_tx])
  rw [evictLive_eq]
  split
  · exact (ownEviction_keeps src _).grant out
  · exact out

/-- An EVICT adds at most a station entry to the journal. -/
theorem evictLive_journalBounded (src : Station) (mask : StationSet) (h : JournalBounded s) :
    JournalBounded (evictLive src mask s) := by
  have out : JournalBounded (syncEvict (withoutRows mask (s.share.pendingEvict &&& ~~~mask) s)) := .congr (h := h)
  rw [evictLive_eq]
  split
  · exact (ownEviction_keeps src _).journal out
  · exact out

theorem evictLive_keeps (src : Station) (mask : StationSet) (s : State) : Keeps s (evictLive src mask s) where
  journal h := evictLive_journalBounded src mask h
  mask h := evictLive_maskSound src mask ((maskSound_iff s).1 h).1
  grant h := evictLive_grantOnlyLive src mask h

theorem evictListen_keeps (src : Station) (mask : StationSet) (s : State) (away : s.line.participation ≠ .live) :
    Keeps s (evictListen src mask s) := by
  have out : Keeps s (withoutRows mask s.share.pendingEvict s) :=
    { mask := fun h => by
        rw [maskSound_iff] at h ⊢
        refine ⟨fun high => ?_, by simpa using h.2⟩
        have none : s.share.pendingEvict = 0 := (h.1 (by simpa using high)).2.2 away
        exact withoutRows_maskFits mask s.share.pendingEvict h.1 (by simp [none]) id high
      grant := withoutRows_grantOnlyLive mask _ }
  exact .ite (fun _ => out.trans (noteEvent_keeps _ _)) fun _ => out

theorem evictOp_keeps (src : Station) (mask : StationSet) (s : State) : Keeps s (evictOp src mask s) := by
  unfold evictOp
  split
  case h_1 => exact evictLive_keeps src mask s
  case h_2 listen => exact evictListen_keeps src mask s (by simp [listen])
  all_goals exact .refl s

theorem budgetCheck_keeps (src : Station) (codes : Byte) (s : State) : Keeps s (budgetCheck src codes s) :=
  .ite (fun _ => .trans (t := { s with share := _ }) {} (report_keeps _ _)) fun _ => .refl s

/-- A peer that has a row is PRESENT. -/
theorem MaskFits.peer_present (h : MaskFits s) (high : s.resetN = true) {i : Station} (peer : i ≠ s.own)
    (known : s.share.rows[i].status ≠ .absent) : s.share.rows[i].status = .present := by
  have self := ((h high).1 i).not.2 peer
  cases status : s.share.rows[i].status
  · exact absurd status known
  · rfl
  · exact absurd status self

theorem presenceLive_keeps (src : Station) (grant want : Byte) (s : State) (live : s.line.participation = .live)
    (peer : src ≠ s.own) : Keeps s (presenceLive src grant want s) := by
  have row (r : Row) (status : r.status = s.share.rows[src].orCreated.status) : Keeps s (setRow src r s) :=
    setRow_keeps src r s (Row.follows_of_created status)
      fun own => absurd own peer
  refine .ite (fun _ => ?_) fun _ => row _ (by rfl)
  refine (row _ (by rfl)).trans <| (noteEvent_keeps _ _).trans <| addPending_keeps src _ (by simpa using live) ?_
  exact fun fits high => fits.peer_present high (by simpa [State.own] using peer)
    (by simpa using s.share.rows[src].orCreated_not_absent)

theorem presenceOp_keeps (src : Station) (codes grant want : Byte) (s : State) (peer : FromPeer src s) :
    Keeps s (presenceOp src codes grant want s) := by
  unfold presenceOp
  split
  case h_1 live =>
    exact (presenceLive_keeps src grant want s live (peer.ne_own (by simp [live]))).trans (budgetCheck_keeps _ _ _)
  case h_2 listen =>
    refine .trans (setRow_keeps src _ s (Row.follows_of_created (by rfl)) fun own => ?_)
      (budgetCheck_keeps _ _ _)
    exact absurd own (peer.ne_own (by simp [listen]))
  all_goals exact .refl s

theorem wantChangeOp_keeps (s : State) : Keeps s (wantChangeOp s) := by
  unfold wantChangeOp
  split
  · exact .refl s
  · next want rest _ =>
    have told : Keeps s (setRow s.own { s.ownRow with want := want }
        { s with inbox := { s.inbox with wants := rest } }) :=
      .trans (t := { s with inbox := _ }) {}
        (setRow_keeps _ _ _ (by exact Row.follows_of_status rfl) fun _ => by rfl)
    exact .ite (fun live => told.trans (review_keeps _ live)) fun _ => told

theorem reviewTimerOp_keeps (s : State) : Keeps s (reviewTimerOp s) :=
  .ite (fun due => review_keeps s due.1) fun _ => .refl s

theorem silenceOp_keeps (peer : Station) (s : State) : Keeps s (silenceOp peer s) := by
  have row (r : Row) (status : r.status = s.share.rows[peer].status) (grant : r.grant = s.share.rows[peer].grant) :
      Keeps s (setRow peer r s) :=
    setRow_keeps peer r s (Row.follows_of_status status) fun own => by subst own; exact grant
  refine .ite (fun due => ?_) fun _ => .refl s
  split
  case h_1 live =>
    exact (row _ (by rfl) (by rfl)).trans (addPending_keeps peer _ live fun _ _ => by simpa using due.1)
  case h_2 => exact row _ rfl rfl
  all_goals exact .refl s

end Sys2Proof.Machine
end

-- ==== Participation, own frames and RESTART keep each promise ====
section
/-! SUPPORT. Changes of participation, the ends of own and of received frames, a RESTART and a reset, and the mark board. -/

namespace Sys2Proof.Machine

variable {s t u : State}

/-! ## The table of the own row alone (R51, R71) -/

theorem ownRowOnly_row (own : Station) (want : Nat) (i : Station) :
    (ownRowOnly own want)[i] = if i = own then ⟨.self, 0, want, true, .stopped⟩ else Row.absent := by
  have same : own.val = i.val ↔ i = own := by rw [Fin.ext_iff, eq_comm]
  simp [ownRowOnly, Vector.getElem_set, same]

theorem ownRowOnly_self (own : Station) (want : Nat) (i : Station) :
    (ownRowOnly own want)[i].status = .self ↔ i = own := by
  rw [ownRowOnly_row]; split <;> simp_all [Row.absent]

theorem clearTable_ownRow (s : State) : (clearTable s).ownRow = ⟨.self, 0, s.ownRow.want, true, .stopped⟩ := by
  have own : (clearTable s).own = s.own := rfl
  simp only [State.ownRow, own]
  exact (ownRowOnly_row s.own _ s.own).trans (if_pos rfl)

/-- Outside LIVE the table may be cleared: no station is pending and the own grant is 0 (R71). -/
theorem clearTable_keeps (s : State) (away : s.line.participation ≠ .live) : Keeps s (clearTable s) where
  mask h := by
    rw [maskSound_iff] at h ⊢
    refine ⟨fun high => ?_, h.2⟩
    have none : s.share.pendingEvict = 0 := (h.1 high).2.2 away
    exact ⟨ownRowOnly_self _ _, fun i bit => by simp [clearTable, none] at bit, fun _ => none⟩
  grant h := by
    rw [grantOnlyLive_iff] at h ⊢
    refine ⟨fun high => ⟨fun _ => ⟨by rw [clearTable_ownRow], ((h.1 high).1 away).2⟩, (h.1 high).2⟩, fun high => ?_⟩
    have grant := ((h.1 high).1 away).1
    rw [clearTable_ownRow, ← grant]
    exact h.2 high

/-! ## Changes of participation (R76, R174 to R178) -/

/-- What leaving LIVE leaves behind: nothing pending, no grant, no CLAIM, and no frame the station has not left. -/
structure Gone (s : State) : Prop where
  pendingEvict : s.share.pendingEvict = 0
  grant : s.ownRow.grant = 0
  claim : s.tx.claim = none
  left : s.line.onLine.map LineFrame.left ≠ some false

/-- Outside LIVE, or with nothing left of LIVE, the line controller may go to any participation state. -/
theorem participation_keeps (l : Line) (left : l.onLine.map LineFrame.left = s.line.onLine.map LineFrame.left)
    (gone : s.line.participation ≠ .live ∨ Gone s) : Keeps s { s with line := l } where
  mask h := by
    rw [maskSound_iff] at h ⊢
    refine ⟨fun high => ?_, h.2⟩
    obtain ⟨self, present, outside⟩ := h.1 high
    exact ⟨self, present, fun _ => gone.elim outside Gone.pendingEvict⟩
  grant h := by
    rw [grantOnlyLive_iff] at h ⊢
    refine ⟨fun high => ?_, h.2⟩
    obtain ⟨nothing, live⟩ := h.1 high
    refine ⟨fun _ => gone.elim nothing fun g => ⟨g.grant, g.claim⟩, fun on => ?_⟩
    have was : s.line.onLine.map LineFrame.left = some false := left.symm.trans on
    exact absurd was (gone.elim (fun away was => away (live was)) Gone.left)

theorem shareLeaveLive_share (s : State) : (shareLeaveLive s).share =
    { s.share with
      rows := s.share.rows.set s.own.val { s.ownRow with grant := 0 }
      pendingEvict := 0, reviewTimer := .stopped, usable := 0 } := by
  simp [shareLeaveLive, setPendingEvict_share]

theorem shareLeaveLive_tx (s : State) : (shareLeaveLive s).tx = { s.tx with evict := none, claim := none } := by
  simp [shareLeaveLive, setPendingEvict_tx, evictFor]

theorem shareLeaveLive_line (s : State) :
    (shareLeaveLive s).line.participation = s.line.participation ∧
      (shareLeaveLive s).line.onLine.map LineFrame.left = s.line.onLine.map LineFrame.left := by
  simp [shareLeaveLive]

theorem shareLeaveLive_ownRow (s : State) : (shareLeaveLive s).ownRow = { s.ownRow with grant := 0 } := by
  have own : (shareLeaveLive s).own = s.own := own_of_straps (by simp)
  simp only [State.ownRow, own, shareLeaveLive_share]
  simp

theorem shareLeaveLive_keeps (s : State) : Keeps s (shareLeaveLive s) where
  mask h := by
    have out := setOwnGrant_maskSound 0 h
    rw [maskSound_iff] at out ⊢
    refine ⟨fun high => ?_, by simp [shareLeaveLive_tx, shareLeaveLive_share, evictFor]⟩
    obtain ⟨self, -, -⟩ := out.1 (by simpa using high)
    have own : (shareLeaveLive s).own = s.own := own_of_straps (by simp)
    rw [own, shareLeaveLive_share]
    exact ⟨by simpa [State.own] using self, by simp, fun _ => rfl⟩
  grant h := by
    rw [grantOnlyLive_iff] at h ⊢
    rw [GrantFits, shareLeaveLive_ownRow, shareLeaveLive_tx, shareLeaveLive_share, (shareLeaveLive_line s).1,
      (shareLeaveLive_line s).2, (shareLeaveLive_frame s).1]
    exact ⟨fun high => ⟨fun _ => ⟨rfl, rfl⟩, (h.1 high).2⟩, fun _ => rfl⟩

/-- The line controller's part of leaving LIVE: its timers stopped, every frame on the line left (R174, R175). -/
def framesLeft (s : State) : State :=
  { s with
    line := { s.line with
      presence := .stopped
      ownSilence := .stopped
      onLine := s.line.onLine.map fun f => { f with left := true } }
    tx := { s.tx with presence := false } }

theorem leaveLive_eq (reason : LeftReason) (s : State) :
    leaveLive reason s = shareLeaveLive (framesLeft (setReplySlot none (noteEvent (.leftLive reason) s))) := rfl

theorem framesLeft_left (s : State) : (framesLeft s).line.onLine.map LineFrame.left ≠ some false := by
  simp [framesLeft]

theorem framesLeft_keeps (s : State) : Keeps s (framesLeft s) := by
  have grant (h : GrantOnlyLive s) : GrantOnlyLive (framesLeft s) := by
    rw [grantOnlyLive_iff] at h ⊢
    exact ⟨fun high => ⟨(h.1 high).1, fun on => absurd on (framesLeft_left s)⟩, h.2⟩
  unfold framesLeft at grant ⊢
  exact { grant }

theorem setReplySlot_keeps (r : Option Reply) (s : State) : Keeps s (setReplySlot r s) := {}

theorem leaveLive_keeps (reason : LeftReason) (s : State) : Keeps s (leaveLive reason s) :=
  (noteEvent_keeps (.leftLive reason) s).trans <| (setReplySlot_keeps none _).trans <|
    (framesLeft_keeps _).trans <| shareLeaveLive_keeps _

theorem leaveLive_gone (reason : LeftReason) (s : State) : Gone (leaveLive reason s) := by
  rw [leaveLive_eq]
  exact ⟨by rw [shareLeaveLive_share], by rw [shareLeaveLive_ownRow], by rw [shareLeaveLive_tx],
    by rw [(shareLeaveLive_line _).2]; exact framesLeft_left _⟩

theorem startWindow_keeps (s : State) (away : s.line.participation ≠ .live) : Keeps s (startWindow s) :=
  .trans (t := { s with line := _ }) {} (clearTable_keeps _ away)

/-- LISTEN is entered from outside LIVE or with nothing left of it (R176). -/
theorem enterListen_keeps (s : State) (gone : s.line.participation ≠ .live ∨ Gone s) : Keeps s (enterListen s) :=
  (participation_keeps _ (by rfl) gone).trans (startWindow_keeps _ (by simp))

theorem shareLiveEntry_keeps (s : State) (live : s.line.participation = .live) : Keeps s (shareLiveEntry s) := by
  simp only [shareLiveEntry]
  exact .trans (t := review s) (review_keeps s live) {}

/-- In LIVE a grant may be held, a CLAIM may wait and an own frame may be on the line. -/
theorem live_keeps (l : Line) (tx : TxSlots) (live : l.participation = .live) (evict : tx.evict = s.tx.evict)
    (claim : tx.claim = s.tx.claim) : Keeps s { s with line := l, tx := tx } where
  mask h := by
    rw [maskSound_iff] at h ⊢
    exact ⟨fun high => ⟨(h.1 high).1, (h.1 high).2.1, by simp [live]⟩, by simpa [evict] using h.2⟩
  grant h := by
    rw [grantOnlyLive_iff] at h ⊢
    exact ⟨by simp [GrantFits, live], by rw [claim]; exact h.2⟩

theorem enterLive_keeps (s : State) : Keeps s (enterLive s) :=
  (live_keeps _ _ (by rfl) (by rfl) (by rfl)).trans <| (noteEvent_keeps .joined _).trans <|
    shareLiveEntry_keeps _ (by simp)

/-! ## Reset and RESTART (R166, R186) -/

/-- Every promised field at its reset value, outside LIVE with no own frame on the line. -/
structure Fresh (s : State) : Prop where
  engine : s.engine = .reset
  slots : s.slots = Vector.replicate 4 .reset
  journal : s.journal = .reset
  board : s.board = .reset
  heater : s.heater = .reset
  stirrer : s.stirrer = .reset
  share : s.share = .reset s.own
  tx : s.tx = .reset
  away : s.line.participation ≠ .live
  onLine : s.line.onLine = none

theorem Fresh.maskSound (fresh : Fresh s) : MaskSound s := by
  intro _
  rw [fresh.share, fresh.tx]
  exact ⟨ownRowOnly_self _ _, by simp [Share.reset], fun _ => rfl, rfl⟩

theorem Fresh.grantOnlyLive (fresh : Fresh s) : GrantOnlyLive s := by
  have grant : s.ownRow.grant = 0 := by
    rw [State.ownRow, fresh.share]
    exact congrArg Row.grant ((ownRowOnly_row s.own 0 s.own).trans (if_pos rfl))
  rw [grantOnlyLive_iff, grant]
  simp [GrantFits, grant, fresh.share, fresh.tx, fresh.onLine, Share.reset, TxSlots.reset, usableUnits]

/-- A fresh state keeps every promise. -/
theorem Fresh.safe (fresh : Fresh s) : Safe s := by
  refine ⟨fun _ live => absurd live fresh.away, ?hold, ?lent, ?journal, ?ownRow, ?heater, ?lock, fresh.maskSound,
    fresh.grantOnlyLive⟩
  case hold => simp [HoldKept, fresh.engine, Engine.reset]
  case lent =>
    intro k
    simp [fresh.engine, fresh.slots, Engine.reset, EngineState.active, Slot.reset]
  case journal =>
    exact .of_noneOpen (by simp [fresh.journal, Journal.reset]) (by simp [NoneOpen, fresh.journal, Journal.reset])
  case ownRow => simp [OwnRowOwnSet, fresh.board, Board.reset]
  case heater => simp [HeaterBounded, fresh.heater, Heater.reset]
  case lock => simp [LockedWhenFast, fresh.stirrer, Stirrer.reset, StirrerState.moving]

/-- Whatever stood before a fresh state, it keeps each promise. -/
theorem Fresh.keeps (fresh : Fresh t) : Keeps s t := by
  obtain ⟨-, hold, lent, journal, ownRow, heater, lock, mask, grant⟩ := fresh.safe
  exact ⟨fun _ => hold, fun _ => lent, fun _ => journal, fun _ => ownRow, fun _ => heater, fun _ => lock, fun _ => mask,
    fun _ => grant⟩

/-- A reset makes a fresh state whatever the straps and the pins (R166). -/
theorem afterReset_fresh (straps : Straps) (pins : PinLevels) (parityGood : Bool) :
    Fresh (State.afterReset straps pins parityGood) where
  engine := rfl
  slots := rfl
  journal := rfl
  board := rfl
  heater := rfl
  stirrer := rfl
  share := rfl
  tx := rfl
  away := by cases parityGood <;> simp [State.afterReset, Line.reset, Line.resetBarred]
  onLine := by cases parityGood <;> rfl

theorem resetOp_keeps (straps : Straps) (pins : PinLevels) (s : State) : Keeps s (resetOp straps pins s) := by
  unfold resetOp
  exact (afterReset_fresh straps pins (parityGood straps)).keeps.trans {}

/-- While RESET_N is low the promises on the straps say nothing, and the others read neither (R115). -/
theorem resetAssertedOp_keeps (straps : Straps) (s : State) : Keeps s (resetAssertedOp straps s) := by
  unfold resetAssertedOp
  exact { ownRow := fun _ high => by simp at high
          mask := fun _ high => by simp at high
          grant := fun _ high => by simp at high }

theorem restarted_line (l : Line) : l.restarted.participation ≠ .live ∧ l.restarted.onLine = none := by
  simp only [Line.restarted]
  split <;> simp [Line.reset, Line.resetBarred]

theorem restart_keeps (s : State) : Keeps s (restart s) := by
  have fresh : Fresh (restartBlocks s) :=
    { engine := rfl, slots := rfl, journal := rfl, board := rfl, heater := rfl, stirrer := rfl, share := rfl, tx := rfl
      away := (restarted_line s.line).1
      onLine := (restarted_line s.line).2 }
  exact fresh.keeps.trans (testFaults_keeps allFaults _)

theorem restartAfter_keeps (replied : Bool) (s : State) : Keeps s (restartAfter replied s) :=
  .ite (fun _ => restart_keeps s) fun _ => .refl s

theorem leaveToListen_keeps (reason : LeftReason) (s : State) : Keeps s (leaveToListen reason s) :=
  (leaveLive_keeps reason s).trans <| (enterListen_keeps _ (.inr (leaveLive_gone reason s))).trans <|
    restartAfter_keeps _ _

theorem enterLineFault_keeps (s : State) : Keeps s (enterLineFault s) :=
  (leaveLive_keeps .lineFault s).trans <| (participation_keeps _ (by rfl) (.inr (leaveLive_gone _ s))).trans <|
    restartAfter_keeps _ _

theorem setMarkSlot_keeps (m : Option MarkFrame) (s : State) : Keeps s (setMarkSlot m s) := {}

theorem enterBarred_keeps (s : State) : Keeps s (enterBarred s) := by
  have left : Keeps s (if s.line.participation = .live then leaveLive .barred s else s) :=
    .ite (fun _ => leaveLive_keeps _ s) fun _ => .refl s
  have gone : let t := if s.line.participation = .live then leaveLive .barred s else s
      t.line.participation ≠ .live ∨ Gone t := by
    by_cases live : s.line.participation = .live
    · simpa [live] using .inr (leaveLive_gone .barred s)
    · simp [live]
  exact left.trans <| (participation_keeps _ (by rfl) gone).trans <| (setMarkSlot_keeps none _).trans <|
    (report_keeps .barred _).trans <| restartAfter_keeps _ _

/-! ## Own frames (R168 to R171) -/

theorem forgetAbandoned_keeps (s : State) : Keeps s (forgetAbandoned s) := by
  unfold forgetAbandoned; exact {}

theorem offerNext_keeps (rival : Option Byte) (s : State) : Keeps s (offerNext rival s) := by
  unfold offerNext
  split
  · exact .refl s
  · refine .ite (fun offered => ?_) fun _ => .refl s
    have live : s.line.participation = .live := by
      simp only [offerOpen, Bool.and_eq_true, decide_eq_true_eq] at offered
      exact offered.1.1
    exact live_keeps _ _ live rfl rfl

theorem offerOp_keeps (rival : Option Byte) (s : State) : Keeps s (offerOp rival s) :=
  (forgetAbandoned_keeps s).trans (offerNext_keeps rival _)

section OffLine

variable {l : Line} {tx : TxSlots}

/-- With its own frame off the line a station still has nothing outside LIVE. -/
theorem offLine_grantFits (participation : l.participation = s.line.participation) (onLine : l.onLine = none)
    (claim : tx.claim = s.tx.claim ∨ tx.claim = none) (h : GrantFits s) : GrantFits { s with line := l, tx := tx } := by
  intro high
  refine ⟨fun away => ?_, by simp [onLine]⟩
  obtain ⟨grant, none⟩ := (h high).1 (participation ▸ away)
  exact ⟨grant, claim.elim (·.trans none) id⟩

theorem offLine_grantOnlyLive (participation : l.participation = s.line.participation) (onLine : l.onLine = none)
    (claim : tx.claim = s.tx.claim) (h : GrantOnlyLive s) : GrantOnlyLive { s with line := l, tx := tx } := by
  rw [grantOnlyLive_iff] at h ⊢
  exact ⟨offLine_grantFits participation onLine (.inl claim) h.1, by rw [claim]; exact h.2⟩

theorem offLine_maskFits (participation : l.participation = s.line.participation) (h : MaskSound s) :
    MaskFits { s with line := l, tx := tx } := by
  intro high
  obtain ⟨self, present, outside⟩ := ((maskSound_iff s).1 h).1 high
  exact ⟨self, present, fun away => outside (participation ▸ away)⟩

theorem offLine_maskSound (participation : l.participation = s.line.participation) (evict : tx.evict = s.tx.evict)
    (h : MaskSound s) : MaskSound { s with line := l, tx := tx } :=
  (maskSound_iff _).2 ⟨offLine_maskFits participation h, by simpa [evict] using ((maskSound_iff s).1 h).2⟩

/-- A MARK, REPLY or PRESENCE off the line. -/
theorem offLine_keeps (participation : l.participation = s.line.participation) (onLine : l.onLine = none)
    (evict : tx.evict = s.tx.evict) (claim : tx.claim = s.tx.claim) : Keeps s { s with line := l, tx := tx } where
  mask := offLine_maskSound participation evict
  grant := offLine_grantOnlyLive participation onLine claim

/-- An EVICT off the line is carried out at the own table (R57). -/
theorem evictTaken_keeps (src : Station) (mask : StationSet) (participation : l.participation = s.line.participation)
    (onLine : l.onLine = none) (claim : tx.claim = s.tx.claim) :
    Keeps s (evictLive src mask { s with line := l, tx := tx }) where
  journal h := evictLive_journalBounded src mask (.congr (h := h))
  mask h := evictLive_maskSound src mask (offLine_maskFits participation h)
  grant h := evictLive_grantOnlyLive src mask (offLine_grantOnlyLive participation onLine claim h)

/-- An EVICT off the line that was dropped is queued again (R62). -/
theorem evictDropped_keeps (participation : l.participation = s.line.participation)
    (onLine : l.onLine = none) (claim : tx.claim = s.tx.claim) :
    Keeps s (syncEvict { s with line := l, tx := tx }) where
  mask h := syncEvict_maskSound (offLine_maskFits participation h)
  grant h := .congr (h := offLine_grantOnlyLive participation onLine claim h) (claim := by rw [syncEvict_tx])

/-- A CLAIM off the line that was dropped: usable units follow the slot (R65). -/
theorem claimDropped_keeps (participation : l.participation = s.line.participation) (onLine : l.onLine = none)
    (evict : tx.evict = s.tx.evict) (claim : tx.claim = s.tx.claim ∨ tx.claim = none) :
    Keeps s (refreshUsable { s with line := l, tx := tx }) where
  mask h := .congr (h := h) (participation := by simpa using participation) (evict := by simpa using evict)
  grant h := refreshUsable_grantOnlyLive (offLine_grantFits participation onLine claim ((grantOnlyLive_iff s).1 h).1)

theorem refreshUsable_maskSound (h : MaskSound s) : MaskSound (refreshUsable s) := .congr (h := h)

/-- An own CLAIM is taken in LIVE: the own grant takes its result (R56). -/
theorem ownClaimTaken_keeps (c : ClaimFrame) (participation : l.participation = s.line.participation)
    (evict : tx.evict = s.tx.evict)
    (live : GrantOnlyLive s → s.resetN = true → s.line.participation = .live) :
    Keeps s (ownClaimTaken c { s with line := l, tx := tx }) := by
  unfold ownClaimTaken
  exact
    { mask := fun h => refreshUsable_maskSound (setOwnGrant_maskSound _ (offLine_maskSound participation evict h))
      grant := fun h => refreshUsable_grantOnlyLive fun high => by
        have stays : l.participation = .live := participation.trans (live h (by simpa using high))
        simp [stays] }

end OffLine

/-- The slots once a frame is off the line. -/
def slotsAfter (f : LineFrame) (taken : Bool) (s : State) : TxSlots := (frameOffLine f taken s).tx

theorem slotsAfter_evict {f : LineFrame} (taken : Bool) (s : State) (other : ∀ mask, f.frame ≠ .evict mask) :
    (slotsAfter f taken s).evict = s.tx.evict := by
  simp only [slotsAfter, frameOffLine]
  split
  · rfl
  · cases frame : f.frame <;> simp_all [TxSlots.without]

theorem slotsAfter_claim {f : LineFrame} (taken : Bool) (s : State) (other : ∀ c, f.frame ≠ .claim c) :
    (slotsAfter f taken s).claim = s.tx.claim := by
  simp only [slotsAfter, frameOffLine]
  split
  · rfl
  · cases frame : f.frame <;> simp_all [TxSlots.without]

theorem slotsAfter_claim_or (f : LineFrame) (taken : Bool) (s : State) :
    (slotsAfter f taken s).claim = s.tx.claim ∨ (slotsAfter f taken s).claim = none := by
  simp only [slotsAfter, frameOffLine]
  split
  · exact .inl rfl
  · cases frame : f.frame <;> simp [TxSlots.without]

theorem dropFrame_eq (f : LineFrame) (s : State) : dropFrame f s =
    ownerDropped f { s with line := { s.line with onLine := none }, tx := slotsAfter f false s } := rfl

theorem takeOwnFrame_eq (f : LineFrame) (s : State) : takeOwnFrame f s =
    ownerTaken f { s with
      line := { s.line with onLine := none, ownSilence := .running, spoil := 0 }, tx := slotsAfter f true s } := rfl

theorem dropFrame_keeps (f : LineFrame) (s : State) : Keeps s (dropFrame f s) := by
  rw [dropFrame_eq]
  unfold ownerDropped
  split
  case h_1 frame => exact evictDropped_keeps rfl rfl (slotsAfter_claim _ s (by simp [frame]))
  case h_2 frame => exact claimDropped_keeps rfl rfl (slotsAfter_evict _ s (by simp [frame])) (slotsAfter_claim_or f _ s)
  all_goals
    rename_i frame
    have off : Keeps s { s with line := { s.line with onLine := none }, tx := slotsAfter f false s } :=
      offLine_keeps rfl rfl (slotsAfter_evict _ s (by simp [frame])) (slotsAfter_claim _ s (by simp [frame]))
  case h_4 => exact off.trans (restartAfter_keeps _ _)
  all_goals exact off

/-- A frame that the station has not left is on the line in LIVE alone (R175). -/
theorem GrantOnlyLive.live_of_onLine {f : LineFrame} (h : GrantOnlyLive s) (high : s.resetN = true)
    (onLine : s.line.onLine = some f) (left : f.left = false) : s.line.participation = .live :=
  (h high).2.1 f onLine left

theorem takeOwnFrame_keeps (f : LineFrame) (s : State) (onLine : s.line.onLine = some f) (left : f.left = false) :
    Keeps s (takeOwnFrame f s) := by
  rw [takeOwnFrame_eq]
  unfold ownerTaken
  split
  case h_1 frame => exact evictTaken_keeps _ _ rfl rfl (slotsAfter_claim _ s (by simp [frame]))
  case h_2 frame =>
    exact ownClaimTaken_keeps _ rfl (slotsAfter_evict _ s (by simp [frame])) fun h high =>
      h.live_of_onLine high onLine left
  all_goals
    rename_i frame
    have off : Keeps s { s with
        line := { s.line with onLine := none, ownSilence := .running, spoil := 0 }, tx := slotsAfter f true s } :=
      offLine_keeps rfl rfl (slotsAfter_evict _ s (by simp [frame])) (slotsAfter_claim _ s (by simp [frame]))
  case h_3 => exact off
  case h_4 => exact off.trans (restartAfter_keeps _ _)
  case h_5 => exact off.trans {}

theorem endOffer_keeps (taken : Bool) (s : State) : Keeps s (endOffer taken s) := by
  unfold endOffer
  split
  · exact {}
  · next f onLine =>
    exact .ite (fun here => takeOwnFrame_keeps f s onLine (by simp_all)) fun _ => dropFrame_keeps f s

theorem whileReceiving_keeps (receiving : Bool) (op : State → State) (s : State) (keeps : Keeps s (op s)) :
    Keeps s (whileReceiving receiving op s) := by
  obtain ⟨abandoned, eq⟩ := whileReceiving_eq receiving op s
  rw [eq]
  exact keeps.trans {}

/-! ## Received frames (R170 to R173) -/

theorem atFrameEnd_keeps (op : State → State) (s : State) (keeps : Keeps s (op s)) : Keeps s (atFrameEnd op s) :=
  .ite (fun _ => {}) fun _ => keeps

theorem badLive_keeps (verdict : BadVerdict) (s : State) : Keeps s (badLive verdict s) :=
  .ite (fun _ => enterLineFault_keeps s) fun _ => .ite (fun _ => leaveToListen_keeps _ s) fun _ => {}

theorem foundBad_keeps (verdict : BadVerdict) (s : State) : Keeps s (foundBad verdict s) := by
  have driven : Keeps s
      { s with line := { s.line with verdict := badDriven s.line.participation verdict } } := {}
  simp only [foundBad]
  split
  case h_1 => exact driven.trans (badLive_keeps _ _)
  case h_2 listen => exact .ite (fun _ => driven.trans (startWindow_keeps _ (by simp [listen]))) fun _ => driven
  all_goals exact driven

theorem checkedGood_keeps (s : State) : Keeps s (checkedGood s) := by
  unfold checkedGood; exact {}

@[simp] theorem heardFrom_participation (src : Station) (s : State) :
    (heardFrom src s).line.participation = s.line.participation := by
  simp only [heardFrom]
  split
  · simp [dropPending]
  · rfl

/-- A peer's frame is handed to a block that keeps every promise at a frame of a peer. -/
theorem takeFrame_keeps (src : Station) (handle : State → State)
    (keeps : ∀ u, FromPeer src u → Keeps u (handle u)) (s : State) : Keeps s (takeFrame src handle s) := by
  refine atFrameEnd_keeps _ s ((checkedGood_keeps s).trans (.ite (fun _ => enterBarred_keeps _) fun peer => ?_))
  refine (heardFrom_keeps src _).trans (keeps _ ?_)
  have own : (heardFrom src (checkedGood s)).own = (checkedGood s).own := own_of_straps (by simp)
  rw [FromPeer, own, heardFrom_participation]
  by_cases same : src = (checkedGood s).own
  · exact .inr (Classical.byContradiction fun unbarred => peer ⟨same, unbarred⟩)
  · exact .inl same

theorem takeShared_keeps (src : Station) (dst : Dest) (handle : State → State)
    (keeps : ∀ u, FromPeer src u → Keeps u (handle u)) (s : State) : Keeps s (takeShared src dst handle s) :=
  takeFrame_keeps src _ (fun u peer => .ite (fun _ => keeps u peer) fun _ => .refl u) s

/-! ## Timers of the line (R174 to R177) -/

theorem ownSilenceOp_keeps (receiving : Bool) (s : State) : Keeps s (ownSilenceOp receiving s) :=
  .ite (fun _ => whileReceiving_keeps _ _ s (leaveToListen_keeps _ s)) fun _ => .refl s

theorem presenceTimerOp_keeps (s : State) : Keeps s (presenceTimerOp s) :=
  .ite (fun _ => {}) fun _ => .refl s

theorem windowOp_keeps (s : State) : Keeps s (windowOp s) :=
  .ite (fun _ => .ite (fun _ => enterLive_keeps s) fun _ => {}) fun _ => .refl s

theorem tableReadyOp_keeps (s : State) : Keeps s (tableReadyOp s) :=
  .ite (fun _ => enterLive_keeps s) fun _ => .refl s

theorem quietTimerOp_keeps (s : State) : Keeps s (quietTimerOp s) :=
  .ite (fun due => enterListen_keeps s (.inl (by simp [due.1]))) fun _ => .refl s

theorem eighthBadOp_keeps (verdict : BadVerdict) (s : State) : Keeps s (eighthBadOp verdict s) :=
  .ite (fun _ => atFrameEnd_keeps _ s (foundBad_keeps verdict s)) fun _ => .refl s

/-! ## The mark board (R153 to R155) -/

/-- A frame changes no own row of the board (R153). -/
theorem boardAdd_keeps (src : Station) (tag : Byte) (marks : MarkSet) (s : State) : Keeps s (boardAdd src tag marks s) := by
  refine .ite (fun added => ?_) fun _ => .refl s
  exact { ownRow := fun h high => by
            have other : src.val ≠ s.straps.station.val := fun e => added.1 (Fin.ext e)
            have row : s.board.rows[s.own] = s.board.own := h high
            simpa [State.own, Vector.getElem_set_ne, other] using row }

theorem markOp_keeps (src : Station) (tag : Byte) (marks : MarkSet) (s : State) : Keeps s (markOp src tag marks s) :=
  .ite (fun _ => boardAdd_keeps src tag marks s) fun _ => .refl s

theorem postMarks_keeps (src : Station) (marks : Option (Byte × MarkSet)) (s : State) :
    Keeps s (postMarks src marks s) := {}

theorem presenceMarksOp_keeps (s : State) : Keeps s (presenceMarksOp s) := by
  unfold presenceMarksOp
  split
  · exact .refl s
  · exact .trans (t := { s with inbox := _ }) {} (boardAdd_keeps _ _ _ _)

end Sys2Proof.Machine
end

-- ==== The request handler keeps each promise, and so does every step ====
section
/-! SUPPORT. The requests, then every command, each by the lemma of its operation; O59 and O57. -/

namespace Sys2Proof.Machine

variable {s t u : State}

/-! ## Requests (R181 to R186) -/

theorem answer_keeps (src : Station) (kind : Nat) (r : ResultCode) (detail : Byte) (data : List Byte) (s : State) :
    Keeps s (answer src kind r detail data s) := setReplySlot_keeps _ s

theorem takeRequest_keeps (src : Station) (dst : Dest) (handle : State → State) (keeps : ∀ u, Keeps u (handle u))
    (s : State) : Keeps s (takeRequest src dst handle s) :=
  takeFrame_keeps src _ (fun u _ => .ite (fun _ => keeps u) fun _ => .refl u) s

theorem answerCommand_keeps (src : Station) (r : ResultCode × State) (s : State) (keeps : Keeps s r.2) :
    Keeps s (answerCommand src r) := keeps.trans (answer_keeps _ _ _ _ _ _)

theorem handleCommand_keeps (src : Station) (act : State → ResultCode × State) (s : State) (keeps : Keeps s (act s).2) :
    Keeps s (handleCommand src act s) := by
  unfold handleCommand
  split
  · exact answerCommand_keeps src _ s (.refl s)
  · exact answerCommand_keeps src _ s keeps

theorem takeCommand_keeps (src : Station) (dst : Dest) (act : State → ResultCode × State)
    (keeps : ∀ u, Keeps u (act u).2) (s : State) : Keeps s (takeCommand src dst act s) :=
  takeRequest_keeps src dst _ (fun u => handleCommand_keeps src act u (keeps u)) s

theorem startAct_keeps (args : Option StartArgs) (s : State) : Keeps s (startAct args s).2 := by
  unfold startAct
  split
  · exact .refl s
  · split
    · exact startRun_keeps _ _ _ s
    · exact .refl s

theorem takeStart_keeps (src : Station) (dst : Dest) (args : Option StartArgs) (s : State) :
    Keeps s (takeStart src dst args s) :=
  takeFrame_keeps src _ (fun u _ => .ite (fun _ => startAct_keeps args u) fun _ =>
    .ite (fun _ => handleCommand_keeps src _ u (startAct_keeps args u)) fun _ => .refl u) s

theorem pauseAct_keeps (s : State) : Keeps s (pauseAct s).2 := by
  unfold pauseAct
  split
  · exact raiseHold_keeps .pause s
  · exact .refl s

theorem resumeAct_keeps (s : State) : Keeps s (resumeAct s).2 := by
  unfold resumeAct
  split
  · next hold =>
    split
    · split
      · exact resumeStep_keeps _ _ s hold
      · exact .refl s
    · exact .refl s
  · exact .refl s

theorem abortAct_keeps (s : State) : Keeps s (abortAct s).2 := by
  unfold abortAct
  split
  · exact abortRun_keeps s
  · exact .refl s

theorem skipAct_keeps (s : State) : Keeps s (skipAct s).2 := by
  unfold skipAct
  split
  · next run =>
    split
    · exact .refl s
    · exact stepExit_keeps _ _ s run
  · exact .refl s

theorem confirmAct_keeps (s : State) : Keeps s (confirmAct s).2 := by
  unfold confirmAct
  split
  · next run =>
    split
    · exact .refl s
    · split
      · exact stepExit_keeps _ _ s run
      · exact .refl s
  · exact .refl s

theorem clearAct_keeps (s : State) : Keeps s (clearAct s).2 := by
  unfold clearAct
  split
  · next fault _ =>
    split
    · exact clearFault_keeps _ s fault
    · exact .refl s
  · exact .refl s
  · exact .refl s

theorem tareAct_keeps (s : State) : Keeps s (tareAct s).2 := by
  unfold tareAct
  split
  · split
    · exact {}
    · exact .refl s
  · exact .refl s

/-! ## The step store (R2, R3, R10, R11) -/

theorem setSlot_keeps (k : Fin 4) (slot : Slot) (s : State) (old : s.slots[k].state ≠ .running)
    (new : slot.state ≠ .running) : Keeps s (setSlot k slot s) := by
  unfold setSlot
  refine { lent := fun h j => ?_ }
  by_cases same : k = j
  · subst same
    have idle := (h k).not.1 old
    simpa [new] using idle
  · have other : k.val ≠ j.val := fun e => same (Fin.ext e)
    simpa [Vector.getElem_set_ne, other] using h j

/-- A request at a slot acts on one that is not RUNNING (R2). -/
theorem atSlot_keeps (b : Byte) (s : State) (act : Fin 4 → Slot → ResultCode × State)
    (keeps : ∀ k, s.slots[k].state ≠ .running → Keeps s (act k s.slots[k]).2) : Keeps s (atSlot b s act).2 := by
  unfold atSlot
  split
  · exact .refl s
  · split
    · exact .refl s
    · next k _ idle => exact keeps k idle

theorem openSlotAct_keeps (args : Option (Byte × Byte)) (s : State) : Keeps s (openSlotAct args s).2 := by
  unfold openSlotAct
  split
  · exact .refl s
  · refine atSlot_keeps _ s _ fun k idle => ?_
    split
    · exact setSlot_keeps k _ s idle (by simp)
    · exact .refl s

theorem closeSlotAct_keeps (args : Option (Byte × Word16)) (s : State) : Keeps s (closeSlotAct args s).2 := by
  unfold closeSlotAct
  split
  · exact .refl s
  · refine atSlot_keeps _ s _ fun k idle => ?_
    split
    · exact setSlot_keeps k _ s idle (by simp)
    · exact .refl s

/-- STEP LOAD stores only into a slot that is LOADING (R10). -/
theorem loadCheck_loading {slot : Slot} {rating : Nat} {index : Byte} {record : StepBytes}
    (done : (loadCheck slot rating index record).1 = .done) : slot.state = .loading := by
  unfold loadCheck at done
  split at done <;> simp_all

theorem loadAt_keeps (src : Station) (k : Fin 4) (index : Byte) (record : StepBytes) (s : State) :
    Keeps s (loadAt src k index record s) := by
  refine .trans (.ite (fun done => ?_) fun _ => .refl s) (answer_keeps _ _ _ _ _ _)
  have idle : s.slots[k].state ≠ .running := by rw [loadCheck_loading done]; exact SlotState.noConfusion
  exact setSlot_keeps k _ s idle idle

theorem handleLoad_keeps (src : Station) (slot index : Byte) (record : StepBytes) (s : State) :
    Keeps s (handleLoad src slot index record s) := by
  unfold handleLoad
  split
  case h_3 => exact loadAt_keeps src _ index record s
  all_goals exact answer_keeps _ _ _ _ _ s

/-! ## SETUP and the queries (R181, R184) -/

theorem setupTaken_keeps (src : Station) (zero cpk : Word16) (probe : Byte) (s : State) :
    Keeps s (setupTaken src zero cpk probe s) := by
  have ready : Keeps s
      { s with engine := if s.engine.state = .unready then { s.engine with state := .idle } else s.engine } := by
    split
    · next unready => exact engine_idle_keeps _ (by simp [unready, EngineState.active]) rfl rfl rfl rfl
    · exact .refl s
  refine ready.trans ?_
  unfold setupTaken
  exact {}

theorem handleSetup_keeps (src : Station) (zero cpk : Word16) (probe : Byte) (s : State) :
    Keeps s (handleSetup src zero cpk probe s) := by
  unfold handleSetup
  split
  case h_3 => exact (setupTaken_keeps src zero cpk probe s).trans (answer_keeps _ _ _ _ _ _)
  all_goals exact answer_keeps _ _ _ _ _ s

theorem handleQuery_keeps (src : Station) (item : State → Option (Byte × List Byte)) (s : State) :
    Keeps s (handleQuery src item s) := by
  refine .ite (fun _ => answer_keeps _ _ _ _ _ s) fun _ => ?_
  split <;> exact answer_keeps _ _ _ _ _ s

theorem takeQuery_keeps (src : Station) (dst : Dest) (item : State → Option (Byte × List Byte)) (s : State) :
    Keeps s (takeQuery src dst item s) := takeRequest_keeps src dst _ (handleQuery_keeps src item) s

/-! ## Every command (R15, R51, R62, R64, R79, R87, R106, R107, R118 to R121, R153, R160 to R163, R175) -/

/-- A command answers a state that keeps each promise. -/
def Kept (s : State) (r : Result) : Prop := ∀ t, r = .next t → Keeps s t

theorem ran_kept (op : State → State) (s : State) (keeps : Keeps s (op s)) : Kept s (ran op s) := by
  rintro t ⟨⟩
  exact .ite (fun _ => keeps) fun _ => .refl s

theorem stirrerCase_keeps (due : Stirrer → SampleSet → Bool) (s : State) : Keeps s (stirrerCase due s) := by
  unfold stirrerCase
  split
  · exact .refl s
  · exact .ite (fun _ => takeStirrerSet_keeps _ stirrerSetOp_keeps s) fun _ => .refl s

theorem engineCase_keeps (due : StepRec → SampleSet → State → Bool) (s : State) : Keeps s (engineCase due s) := by
  unfold engineCase
  split
  · exact .ite (fun _ => takeEngineSet_keeps _ engineSetOp_keeps s) fun _ => .refl s
  · exact .refl s

theorem economy_keeps (s : State) : Kept s (execEconomy s) := by
  refine ran_kept _ s ?_
  split
  · exact .refl s
  · exact .ite (fun _ => takeHeaterSet_keeps _ heaterSetOp_keeps s) fun _ => .refl s

theorem exec_kept (c : Instr) (s : State) : Kept s (exec c s) := by
  cases c with
  | reset straps pins => rintro t ⟨⟩; exact resetOp_keeps straps pins s
  | resetAsserted straps => rintro t ⟨⟩; exact resetAssertedOp_keeps straps s
  -- channels
  | gateEnd lid => exact ran_kept _ s (gateEndOp_keeps lid s)
  | secondBoundary lid | debouncedStateChange lid | rangeConditionChange lid =>
    exact ran_kept _ s (.ite (fun _ => gateEndOp_keeps lid s) fun _ => .refl s)
  | filteredLevelChange channel level => exact ran_kept _ s (filterChange_keeps channel level s)
  -- sample sets
  | heaterSampleSet => exact ran_kept _ s (takeHeaterSet_keeps _ heaterSetOp_keeps s)
  | economy => exact economy_keeps s
  | stirrerSampleSet => exact ran_kept _ s (takeStirrerSet_keeps _ stirrerSetOp_keeps s)
  | stall | stoppingEnd | lockRelease | intervalPhaseEnd => exact ran_kept _ s (stirrerCase_keeps _ s)
  | scaleSampleSet => exact ran_kept _ s (takeScaleSet_keeps _ scaleSetOp_keeps s)
  | engineSampleSet => exact ran_kept _ s (takeEngineSet_keeps _ engineSetOp_keeps s)
  | durationEnd | holdAboveReached | dipReset | timeout => exact ran_kept _ s (engineCase_keeps _ s)
  -- heater and stirrer
  | burstSlotEnd => exact ran_kept _ s (burstSlotOp_keeps s)
  | usableUnits => exact ran_kept _ s (usableUnitsOp_keeps s)
  | rawBowlOpenHeater => exact ran_kept _ s (bowlOpenHeaterOp_keeps s)
  | rawBowlOpenStirrer => exact ran_kept _ s (bowlOpenStirrerOp_keeps s)
  | rawBowlSeated => exact ran_kept _ s (bowlSeatedOp_keeps s)
  | lockSensed => exact ran_kept _ s (lockSensedOp_keeps s)
  | lockDropped => exact ran_kept _ s (lockDroppedOp_keeps s)
  | lockTimerExpiry => exact ran_kept _ s (lockTimerOp_keeps s)
  | spinupTimerExpiry => exact ran_kept _ s (spinTimerOp_keeps s)
  -- reports to the engine
  | bowlReport | lidReport | stallReport => exact ran_kept _ s (takeReport_keeps _ _ (raiseHold_keeps _) s)
  | probeReport | scaleReport | overweight | lostPower =>
    exact ran_kept _ s (takeReport_keeps _ _ (raiseWhen_keeps _ _) s)
  | sensor | overtemp | lidSense | budgetMismatch | barred =>
    exact ran_kept _ s (takeReport_keeps _ _ (faultReport_keeps _) s)
  | addSatisfied => exact ran_kept _ s (takeReport_keeps _ _ addSatisfiedOp_keeps s)
  -- share unit
  | wantChange => exact ran_kept _ s (wantChangeOp_keeps s)
  | claimReviewTimer => exact ran_kept _ s (reviewTimerOp_keeps s)
  | silenceTimer peer => exact ran_kept _ s (silenceOp_keeps peer s)
  -- line controller
  | tableReady => exact ran_kept _ s (tableReadyOp_keeps s)
  | offer rival => exact ran_kept _ s (offerOp_keeps rival s)
  | echoFault => exact ran_kept _ s (whileReceiving_keeps _ _ s (endOffer_keeps _ s))
  | ownFrameTaken | ownFrameDropped => exact ran_kept _ s (endOffer_keeps _ s)
  | frameFoundBad verdict => exact ran_kept _ s (atFrameEnd_keeps _ s (foundBad_keeps verdict s))
  | frameSpoiled => exact ran_kept _ s (atFrameEnd_keeps _ s (checkedGood_keeps s))
  | lineFault verdict => exact ran_kept _ s (eighthBadOp_keeps verdict s)
  | ownSilence receiving => exact ran_kept _ s (ownSilenceOp_keeps receiving s)
  | presenceTimer => exact ran_kept _ s (presenceTimerOp_keeps s)
  | listenWindow => exact ran_kept _ s (windowOp_keeps s)
  | quietTimer => exact ran_kept _ s (quietTimerOp_keeps s)
  -- frames for the share unit and the mark board
  | claim src dst requested want =>
    exact ran_kept _ s (takeShared_keeps src dst _ (claimOp_keeps src requested want) s)
  | evict src dst mask => exact ran_kept _ s (takeShared_keeps src dst _ (fun u _ => evictOp_keeps src mask u) s)
  | presence src dst states codes grant want marks =>
    exact ran_kept _ s (takeShared_keeps src dst _ (fun u peer =>
      (presenceOp_keeps src codes grant want u peer).trans (postMarks_keeps src marks _)) s)
  | mark src dst tag marks => exact ran_kept _ s (takeShared_keeps src dst _ (fun u _ => markOp_keeps src tag marks u) s)
  | presenceMarks => exact ran_kept _ s (presenceMarksOp_keeps s)
  | otherKindTaken src dst kind =>
    exact ran_kept _ s (.ite (fun _ => takeFrame_keeps src id (fun u _ => .refl u) s) fun _ => .refl s)
  -- requests
  | setup src dst zero cpk probe =>
    exact ran_kept _ s (takeRequest_keeps src dst _ (handleSetup_keeps src zero cpk probe) s)
  | stepLoad src dst slot index record =>
    exact ran_kept _ s (takeRequest_keeps src dst _ (handleLoad_keeps src slot index record) s)
  | start src dst args => exact ran_kept _ s (takeStart_keeps src dst args s)
  | pause src dst => exact ran_kept _ s (takeCommand_keeps src dst _ pauseAct_keeps s)
  | resume src dst => exact ran_kept _ s (takeCommand_keeps src dst _ resumeAct_keeps s)
  | abort src dst => exact ran_kept _ s (takeCommand_keeps src dst _ abortAct_keeps s)
  | skip src dst => exact ran_kept _ s (takeCommand_keeps src dst _ skipAct_keeps s)
  | confirm src dst => exact ran_kept _ s (takeCommand_keeps src dst _ confirmAct_keeps s)
  | clear src dst => exact ran_kept _ s (takeCommand_keeps src dst _ clearAct_keeps s)
  | tare src dst => exact ran_kept _ s (takeCommand_keeps src dst _ tareAct_keeps s)
  | openSlot src dst args => exact ran_kept _ s (takeCommand_keeps src dst _ (openSlotAct_keeps args) s)
  | closeSlot src dst args => exact ran_kept _ s (takeCommand_keeps src dst _ (closeSlotAct_keeps args) s)
  | restart src dst => exact ran_kept _ s (takeCommand_keeps src dst _ (fun _ => {}) s)
  | unknownCommand src dst code =>
    change Kept s (execUnknownCommand src dst code s)
    refine ran_kept _ s ?_
    split
    · exact .refl s
    · exact takeCommand_keeps src dst _ (fun u => .refl u) s
  -- queries
  | status src dst => exact ran_kept _ s (takeRequest_keeps src dst _ (fun u => answer_keeps _ _ _ _ _ u) s)
  | sample src dst | row src dst | slot src dst | step src dst | journal src dst | marks src dst =>
    exact ran_kept _ s (takeQuery_keeps src dst _ s)
  | unknownItem src dst item index =>
    change Kept s (execUnknownItem src dst item index s)
    refine ran_kept _ s ?_
    split
    · exact .refl s
    · exact takeRequest_keeps src dst _ (fun u => answer_keeps _ _ _ _ _ u) s

/-- Settles O59: each promise is carried over the command at the front of the queue, whose operation touches few of them. -/
theorem everyStepKeepsEachPromise : Obligations.EveryStepKeepsEachPromise := by
  intro s t stepped
  have keeps : Keeps s t := by
    unfold step at stepped
    split at stepped
    · cases stepped; exact .refl s
    · exact .trans (t := { s with pending := _ }) {} (exec_kept _ _ t stepped)
  exact ⟨keeps.hold, keeps.lent, keeps.journal, keeps.ownRow, keeps.heater, keeps.lock, keeps.mask, keeps.grant⟩

/-- Settles O57: right after reset the table is the own row's alone, outside LIVE, and every unit is at its reset value. -/
theorem resetKeepsEveryPromise : Obligations.ResetKeepsEveryPromise := (afterReset_fresh _ _ _).safe

end Sys2Proof.Machine
end

-- ==== Reset values, burst periods and what ends a step ====
section
/-! SUPPORT. What a reset, a second boundary and a sample set in RUN do, field by field. -/

namespace Sys2Proof.Machine

variable {s : State}

/-! ## Reset (R1, R166, Tables 1-1 to 11-11) -/

/-- The parity is good when ST and STP together hold an odd number of ones (R166). -/
theorem parityGood_eq (straps : Straps) :
    parityGood straps =
      decide (((List.range 4).countP (fun i => straps.station.val.testBit i) + straps.parity.toNat) % 2 = 1) := by
  have table : ∀ (station : Station) (parity : Bool), parityGood ⟨station, parity, 0, 0⟩ =
      decide (((List.range 4).countP (fun i => station.val.testBit i) + parity.toNat) % 2 = 1) := by decide
  exact table straps.station straps.parity

theorem slots_reset (k : Fin 4) : (Vector.replicate 4 Slot.reset)[k] = Slot.reset := by simp

/-- Settles O4: every block's reset record is the manual's, and the parity decides between LISTEN and BARRED. -/
theorem resetReachesEveryResetValue : Obligations.ResetReachesEveryResetValue := by
  intro straps pins s
  refine ⟨resetOp straps pins s, rfl, ?_⟩
  have rows (i : Station) : (ownRowOnly straps.station 0)[i] =
      if i = straps.station then ⟨.self, 0, 0, true, .stopped⟩ else ⟨.absent, 0, 0, true, .stopped⟩ :=
    ownRowOnly_row straps.station 0 i
  have slot (k : Fin 4) : (resetOp straps pins s).slots[k] = Slot.reset := slots_reset k
  have parity := parityGood_eq straps
  refine ⟨rfl, rfl, rfl, rfl, rfl, rfl, rfl, rfl, rfl, rfl, fun k => ?slot, rows, rfl, ?line, rfl, rfl, ?board, rfl,
    rfl, ?inbox, rfl, ?pwm, rfl, rfl, ?cells⟩
  case slot => rw [slot k]; exact ⟨rfl, rfl, fun i => by simp [Slot.reset]⟩
  case pwm => simp [motorPwm, resetOp, State.afterReset, Stirrer.reset]
  case board => intro i; simp [resetOp, State.afterReset, Board.reset]
  all_goals
    simp only [resetOp, State.afterReset, parity]
    split <;> simp_all [Line.reset, Line.resetBarred, Inbox.reset, hlTxCells]

/-! ## A sample set at the heater (R104, R105, R112) -/

/-- A heater record after the over-temperature test of a BASE count (R112). -/
def Heater.tested (h : Heater) (count : Nat) : Heater :=
  if 1320 ≤ count then { h.cutPeriod with overTemp := true } else { h with overTemp := false }

/-- A heater record after a second boundary's ramp, economy and want (R104, items 1 and 2). -/
def Heater.second (h : Heater) (set : SampleSet) : Heater :=
  if h.regulating then
    let counted := if countedSecond h set then h.rampSecond.economySecond set.base else h
    { counted with entrySample := none, want := counted.wantNow }
  else h

theorem overTempTest_eq (set : SampleSet) (s : State) :
    overTempTest set s = { s with
      heater := s.heater.tested set.base
      inbox := { s.inbox with
        reports := s.inbox.reports ++ if 1320 ≤ set.base ∧ s.heater.overTemp = false then [.overtemp] else [] } } := by
  unfold overTempTest Heater.tested
  split
  · next hot => cases h : s.heater.overTemp <;> simp [reportIf, report, hot]
  · next fine => simp [fine]

theorem heaterSecond_eq (set : SampleSet) (s : State) :
    ∃ wants, heaterSecond set s = { s with
      heater := s.heater.second set, inbox := { s.inbox with wants := wants } } := by
  unfold heaterSecond Heater.second
  split
  · exact ⟨_, setWant_eq _ _⟩
  · exact ⟨_, rfl⟩

/-- What a second boundary makes of the heater: the test, the second, the new period (R104). -/
theorem heaterSetOp_boundary (set : SampleSet) (s : State) (boundary : set.boundary = true) :
    ∃ wants, heaterSetOp set s = { s with
      heater := ((s.heater.tested set.base).second set).newPeriod s.rating set.base s.pins.bowlSeated
      inbox := { s.inbox with
        wants := wants
        reports := s.inbox.reports ++ if 1320 ≤ set.base ∧ s.heater.overTemp = false then [.overtemp] else [] } } := by
  obtain ⟨wants, second⟩ := heaterSecond_eq set (overTempTest set s)
  refine ⟨wants, ?_⟩
  simp only [heaterSetOp, boundary, if_true, second]
  rw [overTempTest_eq]
  rfl

/-- What no set touches of a heater record: the step's setpoint, the usable units and whether it regulates. -/
structure SameSetpoint (h h' : Heater) : Prop where
  regulating : h'.regulating = h.regulating
  target : h'.target = h.target
  ramp : h'.ramp = h.ramp
  claimUnits : h'.claimUnits = h.claimUnits
  rampBase : h'.rampBase = h.rampBase
  usable : h'.usable = h.usable

theorem Heater.tested_sameSetpoint (h : Heater) (count : Nat) : SameSetpoint h (h.tested count) := by
  unfold Heater.tested; split <;> exact ⟨rfl, rfl, rfl, rfl, rfl, rfl⟩

theorem Heater.rampSecond_sameSetpoint (h : Heater) : SameSetpoint h h.rampSecond := by
  unfold Heater.rampSecond; split <;> exact ⟨rfl, rfl, rfl, rfl, rfl, rfl⟩

/-- The economy count and state alone are touched (R109, R110). -/
theorem Heater.economySecond_eq (h : Heater) (count : Nat) :
    h.economySecond count = { h with
      economy := (h.economySecond count).economy, economyCount := (h.economySecond count).economyCount } := by
  unfold Heater.economySecond; (repeat' split) <;> rfl

theorem Heater.second_sameSetpoint (h : Heater) (set : SampleSet) : SameSetpoint h (h.second set) := by
  unfold Heater.second
  split
  · split
    · rw [Heater.economySecond_eq]
      exact { h.rampSecond_sameSetpoint with }
    · exact ⟨rfl, rfl, rfl, rfl, rfl, rfl⟩
  · exact ⟨rfl, rfl, rfl, rfl, rfl, rfl⟩

theorem Heater.second_overTemp (h : Heater) (set : SampleSet) : (h.second set).overTemp = h.overTemp := by
  unfold Heater.second
  split
  · split
    · rw [Heater.economySecond_eq]; unfold Heater.rampSecond; split <;> rfl
    · rfl
  · rfl

theorem Heater.second_entrySample (h : Heater) (set : SampleSet) (regulating : h.regulating = true) :
    (h.second set).entrySample = none := by simp [Heater.second, regulating]

/-- The ramp alone moves the elapsed seconds and target-now, at a counted second (R102, R104). -/
theorem Heater.second_ramp (h : Heater) (set : SampleSet) :
    (h.second set).elapsed = (if countedSecond h set then h.rampSecond else h).elapsed ∧
      (h.second set).targetNow = (if countedSecond h set then h.rampSecond else h).targetNow := by
  unfold Heater.second
  split
  · split
    · rw [Heater.economySecond_eq]; exact ⟨rfl, rfl⟩
    · exact ⟨rfl, rfl⟩
  · next off => simp [countedSecond, off]

theorem Heater.second_ramped {h : Heater} {set : SampleSet} (regulating : h.regulating = true)
    (later : h.entrySample ≠ some set.seq) {b : Nat} (base : h.rampBase = some b)
    (below : h.targetNow < 4 * h.target) :
    (h.second set).elapsed = h.elapsed + 1 ∧
      (h.second set).targetNow = min (b + 4 * h.ramp * (h.elapsed + 1) / 60) (4 * h.target) := by
  have counted : countedSecond h set = true := by simp [countedSecond, regulating, later]
  rw [(h.second_ramp set).1, (h.second_ramp set).2]
  simp [counted, Heater.rampSecond, base, below, rampedTarget]

theorem Heater.second_unramped {h : Heater} {set : SampleSet}
    (still : h.regulating = false ∨ h.entrySample = some set.seq ∨ h.rampBase = none ∨ 4 * h.target ≤ h.targetNow) :
    (h.second set).elapsed = h.elapsed ∧ (h.second set).targetNow = h.targetNow := by
  rw [(h.second_ramp set).1, (h.second_ramp set).2]
  rcases still with off | entry | free | full
  · simp [countedSecond, off]
  · simp [countedSecond, entry]
  · simp [Heater.rampSecond, free]
  · simp [Heater.rampSecond, Nat.not_lt.2 full]

/-- What a new period does not touch (R104, item 3). -/
theorem Heater.newPeriod_eq (h : Heater) (rating count : Nat) (seated : Bool) :
    h.newPeriod rating count seated = { h with
      slotPos := 0
      periodRunning := true
      cut := (h.newPeriod rating count seated).cut
      applied := (h.newPeriod rating count seated).applied
      onSlots := (h.newPeriod rating count seated).onSlots } := by
  simp only [Heater.newPeriod]; (repeat' split) <;> rfl

theorem Heater.newPeriod_cut (h : Heater) (rating count : Nat) (seated : Bool) :
    (h.newPeriod rating count seated).cut = true ↔ 1320 ≤ count ∨ seated = false := by
  simp only [Heater.newPeriod]
  split
  · next cut => simpa [Heater.cutPeriod] using cut
  · next going => split <;> simpa [Heater.compute] using going

/-- A cut period, or one of an OFF heater, applies nothing (R107, log entry 11). -/
theorem Heater.newPeriod_idle {h : Heater} {rating count : Nat} {seated : Bool}
    (idle : (h.newPeriod rating count seated).cut = true ∨ h.regulating = false) :
    (h.newPeriod rating count seated).applied = 0 ∧ (h.newPeriod rating count seated).onSlots = 0 := by
  rw [Heater.newPeriod_cut] at idle
  simp only [Heater.newPeriod]
  split
  · exact ⟨rfl, rfl⟩
  · next going =>
    have off : h.regulating = false := idle.resolve_left (by simpa using going)
    simp [off]

theorem Heater.newPeriod_computes {h : Heater} {rating count : Nat} {seated : Bool}
    (going : (h.newPeriod rating count seated).cut = false) (regulating : h.regulating = true) :
    (h.newPeriod rating count seated).applied =
        (if h.claimUnits = 0 then 0 else min (demand rating h.target h.targetNow count) h.usable) ∧
      (h.newPeriod rating count seated).onSlots = onSlotsOf rating (h.newPeriod rating count seated).applied := by
  have uncut : ¬(1320 ≤ count ∨ seated = false) := (h.newPeriod_cut rating count seated).not.1 (by simp [going])
  simp [Heater.newPeriod, uncut, regulating, Heater.compute]

/-- What the over-temperature test leaves of the ramp, and the flag it writes (R112). -/
theorem Heater.tested_fields (h : Heater) (count : Nat) :
    (h.tested count).elapsed = h.elapsed ∧ (h.tested count).targetNow = h.targetNow ∧
      (h.tested count).entrySample = h.entrySample ∧ ((h.tested count).overTemp = true ↔ 1320 ≤ count) := by
  unfold Heater.tested; split <;> simp_all [Heater.cutPeriod]

/-- Settles O12: the over-temperature test, the counted second and the new burst period act one after the other, each on its
own fields of the heater record. -/
theorem secondBoundaryStartsABurstPeriod : Obligations.SecondBoundaryStartsABurstPeriod := by
  intro s set rest high queued boundary
  have taken : takeHeaterSet heaterSetOp s = heaterSetOp set { s with inbox := { s.inbox with heater := rest } } := by
    simp [takeHeaterSet, queued]
  obtain ⟨wants, begun⟩ := heaterSetOp_boundary set { s with inbox := { s.inbox with heater := rest } } boundary
  refine ⟨_, (ran_of_high _ _ high).trans (congrArg _ (taken.trans begun)), ?_⟩
  have tested := s.heater.tested_sameSetpoint set.base
  obtain ⟨elapsed, targetNow, entry, hot⟩ := s.heater.tested_fields set.base
  have done := (s.heater.tested set.base).second_sameSetpoint set
  have flag := (s.heater.tested set.base).second_overTemp set
  have period := ((s.heater.tested set.base).second set).newPeriod_eq s.rating set.base s.pins.bowlSeated
  have regulates := done.regulating.trans tested.regulating
  refine ⟨?slotPos, ?running, ?regulating, ?overTemp, rfl, Heater.newPeriod_cut _ _ _ _, ?idle, ?computes, ?entry, ?ramped,
    ?unramped, rfl⟩
  case slotPos => exact congrArg Heater.slotPos period
  case running => exact congrArg Heater.periodRunning period
  case regulating => exact (congrArg Heater.regulating period).trans regulates
  case overTemp => exact (iff_of_eq (congrArg (· = true) ((congrArg Heater.overTemp period).trans flag))).trans hot
  case idle => exact fun idle => Heater.newPeriod_idle (idle.imp id regulates.trans)
  case computes =>
    intro going regulating
    have computed := Heater.newPeriod_computes going (regulates.trans regulating)
    have now := congrArg Heater.targetNow period
    rw [done.claimUnits, tested.claimUnits, done.target, tested.target, done.usable, tested.usable] at computed
    exact ⟨now ▸ computed.1, computed.2⟩
  case entry =>
    intro regulating
    exact (congrArg Heater.entrySample period).trans (Heater.second_entrySample _ _ (tested.regulating.trans regulating))
  case ramped =>
    intro regulating later b base below
    have ramped := Heater.second_ramped (h := s.heater.tested set.base) (set := set) (tested.regulating.trans regulating)
      (by rwa [entry]) (tested.rampBase.trans base) (by rwa [targetNow, tested.target])
    rw [elapsed, tested.ramp, tested.target] at ramped
    exact ⟨(congrArg Heater.elapsed period).trans ramped.1, (congrArg Heater.targetNow period).trans ramped.2⟩
  case unramped =>
    intro still
    have unramped := Heater.second_unramped (h := s.heater.tested set.base) (set := set)
      (by rwa [tested.regulating, entry, tested.rampBase, tested.target, targetNow])
    rw [elapsed, targetNow] at unramped
    exact ⟨(congrArg Heater.elapsed period).trans unramped.1, (congrArg Heater.targetNow period).trans unramped.2⟩

end Sys2Proof.Machine
end

-- ==== What a dip and a timeout do ====
section
/-! SUPPORT. A sample set that the engine takes in RUN: its counters, the cases the rows name, a latched timeout. -/

namespace Sys2Proof.Machine

variable {s : State}

/-! ## The counters of a set (R31, R37, R39) -/

theorem Engine.targetTest_eq (e : Engine) (target : Nat) (set : SampleSet) :
    e.targetTest target set =
      { e with atTemp := (e.targetTest target set).atTemp, phase := (e.targetTest target set).phase } := by
  unfold Engine.targetTest; split <;> rfl

theorem Engine.accumulate_eq (e : Engine) (threshold : Nat) (reading : Option Nat) :
    e.accumulate threshold reading =
      { e with accumulator := (e.accumulate threshold reading).accumulator, dip := (e.accumulate threshold reading).dip } := by
  unfold Engine.accumulate; (repeat' split) <;> rfl

/-- The eleventh second in a row below the threshold empties the accumulator (R37). -/
theorem Engine.accumulate_dips {e : Engine} {threshold count : Nat} (dip : e.dip = 10)
    (below : (count : Int) - 400 < 4 * (threshold : Int)) :
    e.accumulate threshold (some count) = { e with accumulator := 0, dip := 11 } := by
  have under : ¬4 * (threshold : Int) ≤ quarter count := Int.not_le.2 below
  simp [Engine.accumulate, under, dip]

/-- The engine record in RUN as the phase's counters find it at a second boundary (R31, items 2 and 3). -/
def boundaryTick (st : StepRec) (set : SampleSet) (e : Engine) : Engine :=
  Engine.targetTest { e.tick with timeout := min 65535 (e.timeout + 1) } st.target set

theorem runCounts_boundary {set : SampleSet} (boundary : set.boundary = true) (st : StepRec) (s : State) :
    runCounts st set s = phaseCount s.engine.phase st s set (boundaryTick st set s.engine) := by
  simp [runCounts, boundary, boundaryTick]

/-- What a boundary's counters leave of the run clock, the timeout and the fields that no counter touches. -/
theorem boundaryTick_fields (st : StepRec) (set : SampleSet) (e : Engine) :
    (boundaryTick st set e).clock = min 16777215 (e.clock + 1) ∧ (boundaryTick st set e).timeout = min 65535 (e.timeout + 1) ∧
      (boundaryTick st set e).tag = e.tag ∧ (boundaryTick st set e).index = e.index ∧
      (boundaryTick st set e).dip = e.dip := by
  unfold boundaryTick
  rw [Engine.targetTest_eq]
  exact ⟨rfl, rfl, rfl, rfl, rfl⟩

theorem phaseCount_fields (before : Phase) (st : StepRec) (s : State) (set : SampleSet) (e : Engine) :
    (phaseCount before st s set e).clock = e.clock ∧ (phaseCount before st s set e).timeout = e.timeout ∧
      (phaseCount before st s set e).tag = e.tag ∧ (phaseCount before st s set e).index = e.index := by
  unfold phaseCount
  split
  · exact ⟨rfl, rfl, rfl, rfl⟩
  · rw [Engine.accumulate_eq]; exact ⟨rfl, rfl, rfl, rfl⟩
  · exact ⟨rfl, rfl, rfl, rfl⟩

theorem runCounts_fields {set : SampleSet} (boundary : set.boundary = true) (st : StepRec) (s : State) :
    (runCounts st set s).clock = min 16777215 (s.engine.clock + 1) ∧
      (runCounts st set s).timeout = min 65535 (s.engine.timeout + 1) ∧ (runCounts st set s).tag = s.engine.tag ∧
      (runCounts st set s).index = s.engine.index := by
  obtain ⟨clock, timeout, tag, index⟩ := phaseCount_fields s.engine.phase st s set (boundaryTick st set s.engine)
  obtain ⟨clock', timeout', tag', index', -⟩ := boundaryTick_fields st set s.engine
  rw [runCounts_boundary boundary]
  exact ⟨clock.trans clock', timeout.trans timeout', tag.trans tag', index.trans index'⟩

theorem runCounts_dips {st : StepRec} {set : SampleSet} {threshold seconds count : Nat} (boundary : set.boundary = true)
    (kind : st.kind = .holdAbove threshold seconds) (phase : s.engine.phase = .accumulating) (dip : s.engine.dip = 10)
    (reading : holdAboveCount s set = some count) (below : (count : Int) - 400 < 4 * (threshold : Int)) :
    runCounts st set s = { boundaryTick st set s.engine with accumulator := 0, dip := 11 } := by
  have ticked : (boundaryTick st set s.engine).dip = 10 := (boundaryTick_fields st set s.engine).2.2.2.2.trans dip
  rw [runCounts_boundary boundary]
  simpa [phaseCount, phase, kind, reading] using Engine.accumulate_dips ticked below

/-! ## A set the engine takes in RUN (R31, log entry 3) -/

/-- The state in which the engine handles the set at the head of its queue. -/
def atDelivery (d : Delivery) (rest : List Delivery) (s : State) : State :=
  { s with chan := s.chan.asDelivered d, inbox := { s.inbox with engine := rest } }

/-- The engine in RUN, its step present, with a set at the head of its queue. -/
structure TakesInRun (s : State) (d : Delivery) (rest : List Delivery) (st : StepRec) : Prop where
  high : s.resetN = true
  queued : s.inbox.engine = d :: rest
  step : curStep s = some st
  run : s.engine.state = .run

section TakesInRun

variable {d : Delivery} {rest : List Delivery} {st : StepRec}

theorem TakesInRun.taken (h : TakesInRun s d rest st) :
    takeEngineSet engineSetOp s = { runSet st d.set (atDelivery d rest s) with chan := s.chan } := by
  have step : curStep (atDelivery d rest s) = some st := h.step
  have op : engineSetOp d.set (atDelivery d rest s) = runSet st d.set (atDelivery d rest s) := by
    have run : (atDelivery d rest s).engine.state = .run := h.run
    simp only [engineSetOp, run, step]
  rw [takeEngineSet_cons h.queued, ← op]
  rfl

theorem TakesInRun.sampleSet (h : TakesInRun s d rest st) :
    exec .engineSampleSet s = .next { runSet st d.set (atDelivery d rest s) with chan := s.chan } :=
  (ran_of_high _ _ h.high).trans (congrArg _ h.taken)

/-- A row that names a case of the engine's sample sets does what the set does when the case is met. -/
theorem TakesInRun.row (h : TakesInRun s d rest st) {due : StepRec → SampleSet → State → Bool}
    (met : due st d.set { s with chan := s.chan.asDelivered d } = true) :
    ran (engineCase due) s = .next { runSet st d.set (atDelivery d rest s) with chan := s.chan } := by
  rw [ran_of_high _ _ h.high, ← h.taken]
  simp [engineCase, h.queued, h.step, h.run, met]

end TakesInRun

theorem runSet_stays {st : StepRec} {set : SampleSet} (goes : endMet st (engineProgress st set s) = false)
    (early : timeoutDue st set (engineProgress st set s) = false) : runSet st set s = engineProgress st set s := by
  simp [runSet, goes, early]

theorem runSet_times_out {st : StepRec} {set : SampleSet} (goes : endMet st (engineProgress st set s) = false)
    (due : timeoutDue st set (engineProgress st set s) = true) :
    runSet st set s = timeoutAct st (engineProgress st set s) := by
  simp [runSet, goes, due]

/-! ## A latched fault (R95) -/

theorem heaterOff_eq (s : State) : ∃ h wants, h.regulating = false ∧
    heaterOff s = { s with heater := h, inbox := { s.inbox with wants := wants } } := by
  unfold heaterOff
  split
  · refine ⟨_, _, ?_, setWant_eq _ _⟩; rfl
  · next off => exact ⟨s.heater, s.inbox.wants, by simpa using off, rfl⟩

/-- A stop is a setting of level 0: the stirrer goes to STOPPING, or stays where it stops or stands (R117, R120). -/
theorem giveStop_eq (s : State) : ∃ t, t.setting = { s.stirrer.setting with level := 0 } ∧
    giveStop s = { s with stirrer := t } := by
  have change (t : Stirrer) (zero : t.setting.level = 0) : t.change = t.goStopping := by simp [Stirrer.change, zero]
  simp only [giveStop, giveSetting]
  split
  · simp only [actOnSetting, Stirrer.take, decide_true, Bool.or_true, if_true]
    exact ⟨_, rfl, rfl⟩
  · exact ⟨_, rfl, rfl⟩
  · exact ⟨_, rfl, rfl⟩
  all_goals
    rw [change _ rfl]
    exact ⟨_, rfl, rfl⟩

/-- The run that a fault ends: the entry closed FAULTED, the slot returned (R95, item 1). -/
theorem faultRun_eq (s : State) (active : s.engine.state.active = true) :
    faultRun s = { s with
      engine := { s.engine with saved := none, causes := .empty }
      slots := (returnSlot s).slots
      journal := { s.journal with entries := s.journal.entries.map <| JournalEntry.mapOpen fun e =>
        { e with ending := some (s.engine.clock, .faulted) } } } := by
  simp only [faultRun, active, if_true, closeEntry, mapOpen, returnSlot]
  cases s.engine.slot <;> rfl

theorem returnSlot_slots {k : Fin 4} (slot : s.engine.slot = some k) :
    (returnSlot s).slots[k] = { s.slots[k] with state := .ready } ∧
      ∀ j : Fin 4, j ≠ k → (returnSlot s).slots[j] = s.slots[j] := by
  simp only [returnSlot, slot, setSlotState]
  exact ⟨by simp, fun j other => by simp [Vector.getElem_set_ne, Fin.val_ne_of_ne other.symm]⟩

/-- A fault latched in RUN or HOLD, written out as one record. -/
theorem latchFault_eq (code : FaultCode) (s : State) (active : s.engine.state.active = true) :
    ∃ h t wants, h.regulating = false ∧ t.setting = { s.stirrer.setting with level := 0 } ∧
      latchFault code s = { s with
        engine := { s.engine.clearStep with state := .fault, fault := some code, saved := none, causes := .empty }
        slots := (returnSlot s).slots
        heater := h
        stirrer := t
        scale := s.scale.noPhase
        journal := (Journal.add { s.journal with entries := s.journal.entries.map <| JournalEntry.mapOpen fun e =>
            { e with ending := some (s.engine.clock, .faulted) } }
          (.station s.engine.tag s.engine.clock (.fault code)))
        inbox := { s.inbox with wants := wants } } := by
  obtain ⟨h, wants, off, heater⟩ := heaterOff_eq (faultRun s)
  obtain ⟨t, setting, stirrer⟩ := giveStop_eq (heaterOff (faultRun s))
  refine ⟨h, t, wants, off, by simpa using setting, ?_⟩
  simp only [latchFault]
  rw [stirrer, heater, faultRun_eq s active]
  rfl

/-- Settles O33: below the threshold for the eleventh second nothing else falls due; a timeout that falls due is the one thing
the set does besides its counters. -/
theorem dipResetAndTimeoutAct : Obligations.DipResetAndTimeoutAct := by
  intro s d rest high queued st step run boundary v u
  have takes : TakesInRun s d rest st := ⟨high, queued, step, run⟩
  have progress : u.engine = runCounts st d.set v := engineProgress_engine st d.set v
  obtain ⟨clock, timeout, tag, index⟩ : u.engine.clock = min 16777215 (s.engine.clock + 1) ∧
      u.engine.timeout = min 65535 (s.engine.timeout + 1) ∧ u.engine.tag = s.engine.tag ∧
      u.engine.index = s.engine.index := progress ▸ runCounts_fields boundary st v
  have same : SameHold s.engine u.engine := progress ▸ runCounts_sameHold st d.set v
  constructor
  · intro threshold seconds kind some_seconds not_due phase dip count reading below
    have dips := runCounts_dips (s := v) boundary kind phase dip reading below
    have emptied : u.engine.accumulator = 0 := congrArg Engine.accumulator (progress.trans dips)
    have full : u.engine.dip = 11 := congrArg Engine.dip (progress.trans dips)
    have goes : endMet st u = false := by simp [endMet, kind, emptied, Nat.ne_of_lt some_seconds]
    have early : timeoutDue st d.set u = false := by
      simpa [timeoutDue, boundary, timeout, or_iff_not_imp_left] using not_due
    have stays : runSet st d.set (atDelivery d rest s) = u := runSet_stays goes early
    have due : dipDue st d.set { s with chan := s.chan.asDelivered d } = true := by
      have reset : (runCounts st d.set { s with chan := s.chan.asDelivered d }).dip = 11 := progress ▸ full
      simp [dipDue, StepRec.isHoldAbove, kind, dip, reset]
    exact ⟨stays ▸ takes.row due, stays ▸ takes.sampleSet, full, emptied, same.state.trans run, index⟩
  · intro reaches bound goes
    have due : timeoutDue st d.set u = true := by
      simp [timeoutDue, boundary, timeout, reaches]
      omega
    have acts : runSet st d.set (atDelivery d rest s) = timeoutAct st u := runSet_times_out goes due
    have row : timeoutCase st d.set { s with chan := s.chan.asDelivered d } = true := by
      have goes' : endMet st (engineProgress st d.set { s with chan := s.chan.asDelivered d }) = false := goes
      have due' : timeoutDue st d.set (engineProgress st d.set { s with chan := s.chan.asDelivered d }) = true := due
      simp [timeoutCase, goes', due']
    have answers := takes.row row
    have sampleSet := takes.sampleSet
    rw [acts] at answers sampleSet
    constructor
    · intro continues
      rw [timeoutAct, if_pos continues] at answers sampleSet
      exact ⟨answers, sampleSet⟩
    · intro ends
      have latches : timeoutAct st u = latchFault .stepTimeout u := by simp [timeoutAct, ends]
      obtain ⟨h, t, wants, off, setting, latched⟩ :=
        latchFault_eq .stepTimeout u (by simp [same.state, run, EngineState.active])
      rw [latches, latched] at answers sampleSet
      refine ⟨_, answers, sampleSet, rfl, tag, clock, fun k slot => ?_, off, setting, rfl, ?_, rfl⟩
      · exact returnSlot_slots (same.slot.trans slot)
      · rw [← tag]; rfl

end Sys2Proof.Machine
end

-- ==== Requests directed to the station, and the step store ====
section
/-! SUPPORT. A directed request reaches its handler with the source noted; what the step store reads, checks and stores. -/

namespace Sys2Proof.Machine

variable {s : State} {src : Station} {dst : Dest}

/-! ## A request reaches its handler (R182, R183) -/

/-- The note of a taken peer frame touches the line, the share table and the EVICT slot alone (R53, R173). -/
@[simp] theorem noted_frame (src : Station) (s : State) :
    (noted src s).resetN = s.resetN ∧ (noted src s).straps = s.straps ∧ (noted src s).chan = s.chan ∧
      (noted src s).scale = s.scale ∧ (noted src s).engine = s.engine ∧ (noted src s).slots = s.slots ∧
      (noted src s).handler = s.handler ∧ (noted src s).board = s.board ∧ (noted src s).journal = s.journal := by
  simp [noted]

@[simp] theorem noted_participation (src : Station) (s : State) :
    (noted src s).line.participation = s.line.participation := by simp [noted, checkedGood]

theorem noted_own (src : Station) (s : State) : (noted src s).own = s.own := own_of_straps (by simp)

theorem noted_rating (src : Station) (s : State) : (noted src s).rating = s.rating := by simp [State.rating]

theorem takeRequest_directed (directed : Directed src dst s) (handle : State → State) :
    takeRequest src dst handle s = handle (noted src s) := by
  obtain ⟨⟨-, peer, kept⟩, live, address, pending⟩ := directed
  have other : ¬(src = (checkedGood s).own ∧ (checkedGood s).line.participation ≠ .barred) := fun own => peer own.1
  have acted : actedOn dst (noted src s) = true := by simp [actedOn, noted_own, live, address, pending]
  rw [takeRequest, takeFrame, atFrameEnd_of_kept _ _ kept, handleFrame]
  exact (if_neg other).trans (if_pos acted)

/-- A COMMAND of the panel station is answered with its owner's result (R183). -/
theorem takeCommand_fromPanel (panel : FromPanel src dst s) (act : State → ResultCode × State) :
    takeCommand src dst act s = commandReplied src (act (noted src s)).1 (act (noted src s)).2 := by
  have passed : panelCheck src (noted src s) = none := by simp [panelCheck, panel.2]
  rw [takeCommand, takeRequest_directed panel.1, handleCommand, passed]
  rfl

theorem ran_takeCommand (panel : FromPanel src dst s) (act : State → ResultCode × State) {r : ResultCode} {t : State}
    (acts : act (noted src s) = (r, t)) : ran (takeCommand src dst act) s = .next (commandReplied src r t) := by
  rw [ran_of_high _ _ panel.1.1.1, takeCommand_fromPanel panel, acts]

theorem ran_takeRequest (directed : Directed src dst s) {handle : State → State} {t : State}
    (handles : handle (noted src s) = t) : ran (takeRequest src dst handle) s = .next t := by
  rw [ran_of_high _ _ directed.1.1, takeRequest_directed directed, handles]

/-! ## Slots (R2, R10) -/

theorem slotOf_of_eq {b : Byte} {k : Fin 4} (same : b.toNat = k.val) : slotOf b = some k := by
  simp [slotOf, same]

theorem slotOf_of_le {b : Byte} (outside : 4 ≤ b.toNat) : slotOf b = none := by simp [slotOf, outside]

theorem setSlot_slots (k : Fin 4) (slot : Slot) (s : State) :
    (setSlot k slot s).slots[k] = slot ∧ ∀ j : Fin 4, j ≠ k → (setSlot k slot s).slots[j] = s.slots[j] := by
  simp only [setSlot]
  exact ⟨by simp, fun j other => by simp [Vector.getElem_set_ne, Fin.val_ne_of_ne other.symm]⟩

theorem atSlot_of_outside {b : Byte} (outside : 4 ≤ b.toNat) (s : State) (act : Fin 4 → Slot → ResultCode × State) :
    atSlot b s act = (.badField, s) := by simp [atSlot, slotOf_of_le outside]

theorem atSlot_of_running {b : Byte} {k : Fin 4} (same : b.toNat = k.val) (running : s.slots[k].state = .running)
    (act : Fin 4 → Slot → ResultCode × State) : atSlot b s act = (.slotBusy, s) := by
  simp only [atSlot, slotOf_of_eq same, running, if_true]

theorem atSlot_of_free {b : Byte} {k : Fin 4} (same : b.toNat = k.val) (free : s.slots[k].state ≠ .running)
    (act : Fin 4 → Slot → ResultCode × State) : atSlot b s act = act k s.slots[k] := by
  simp only [atSlot, slotOf_of_eq same, free, if_false]

/-- The present check is the sum of the present records, modulo 65536 (R12). -/
theorem presentCheck_eq (slot : Slot) :
    presentCheck slot = ((slot.records.toList.filterMap id).map recordSum).sum % 65536 := by
  have step (l : List (Option StepBytes)) (n : Nat) (reduced : n % 65536 = n) :
      l.foldl (fun n r => match r with | none => n | some b => (n + recordSum b) % 65536) n =
        (n + ((l.filterMap id).map recordSum).sum) % 65536 := by
    induction l generalizing n with
    | nil => simp [reduced]
    | cons r l ih =>
      cases r with
      | none => simpa using ih n reduced
      | some b => simp [ih _ (Nat.mod_mod _ _), Nat.add_assoc]
  have summed := step slot.records.toList 0 rfl
  rw [Nat.zero_add] at summed
  rw [← summed]
  rfl

end Sys2Proof.Machine
end

-- ==== The fields of a step record ====
section
/-! SUPPORT. What the bytes of a step record say, field by field (Tables 1-4 and 11-6). -/

namespace Sys2Proof.Machine

/-- Bit `i` of a byte as a digit of its number. -/
theorem getLsbD_eq_digit (x : Byte) (i : Nat) : x.getLsbD i = decide (x.toNat / 2 ^ i % 2 = 1) :=
  Nat.testBit_eq_decide_div_mod_eq

theorem fromTemp_eq (b : StepBytes) : fromTemp b = decide (recByte b 0 / 16 % 2 = 1) := getLsbD_eq_digit _ 4

theorem policyContinue_eq (b : StepBytes) : policyContinue b = decide (recByte b 0 / 8 % 2 = 1) := getLsbD_eq_digit _ 3

theorem recDirection_eq (b : StepBytes) : recDirection b = if recByte b 0 / 4 % 2 = 1 then .reverse else .forward := by
  simp only [recDirection, getLsbD_eq_digit, decide_eq_true_eq]; rfl

theorem recPattern_eq (b : StepBytes) :
    recPattern b = if recByte b 0 / 2 % 2 = 1 then .interval else .continuous := by
  simp only [recPattern, getLsbD_eq_digit, decide_eq_true_eq]; rfl

theorem raisePresent_eq (b : StepBytes) : raisePresent b = decide (recByte b 0 % 2 = 1) := by
  rw [raisePresent, getLsbD_eq_digit, Nat.pow_zero, Nat.div_one]; rfl

theorem recByte_lt (b : StepBytes) (i : Fin 16) : recByte b i < 256 := b[i].isLt

theorem within_eq (lo hi n : Nat) : within lo hi n = decide (lo ≤ n ∧ n ≤ hi) := by simp [within]

/-- An interval field as Table 1-4 bounds it. -/
theorem intervalValid_eq (b : StepBytes) (n : Nat) :
    intervalValid b n = decide (if recByte b 0 / 2 % 2 = 1 then 1 ≤ n ∧ n ≤ 60 else n = 0) := by
  simp only [intervalValid, recPattern_eq]
  by_cases interval : recByte b 0 / 2 % 2 = 1 <;> simp [interval, within_eq]

theorem paramAValid_eq (b : StepBytes) (kind : 1 ≤ endCode b ∧ endCode b ≤ 6) :
    paramAValid b = decide ((endCode b = 1 → 1 ≤ paramA b) ∧ (endCode b = 3 → paramA b = 0) ∧
      (endCode b = 4 → 50 ≤ paramA b ∧ paramA b ≤ 100) ∧ (endCode b = 5 → 1 ≤ paramA b ∧ paramA b ≤ 10000) ∧
      (endCode b = 6 → recByte b 8 ≤ 15 ∧ recByte b 9 ≤ 31)) := by
  have word : paramA b ≤ 65535 := by
    have := recByte_lt b 8
    have := recByte_lt b 9
    simp only [paramA, recWord]; omega
  unfold paramAValid
  split <;> simp_all [within_eq]
  omega

theorem paramBValid_eq (b : StepBytes) :
    paramBValid b = decide (if endCode b = 4 then 1 ≤ paramB b ∧ paramB b ≤ 3600
      else if endCode b = 5 then 1 ≤ paramB b ∧ paramB b ≤ 50 else paramB b = 0) := by
  unfold paramBValid
  split <;> simp_all [within_eq]

/-! ## The fields in order (Table 1-4) -/

/-- The rows of Table 1-4 on the numbers of a record's bytes. -/
def tableChecks (rating : Nat) (b : StepBytes) : List (Nat × Bool) :=
  let code := endCode b
  let counted := recByte b 0 / 16 % 2 = 1
  let interval := recByte b 0 / 2 % 2 = 1
  let target := recByte b 1
  let level := recByte b 5
  [ (1, decide (1 ≤ code ∧ code ≤ 6)),
    (2, decide (counted → code = 1)),
    (4, decide ((target = 0 ∨ (30 ≤ target ∧ target ≤ 200)) ∧ (code = 2 ∨ (code = 1 ∧ counted) → target ≠ 0))),
    (5, decide (recByte b 2 ≤ 30 ∧ (target = 0 → recByte b 2 = 0))),
    (6, decide (recByte b 3 ≤ rating ∧ (target = 0 → recByte b 3 = 0))),
    (7, decide (recByte b 4 ≤ recByte b 3)),
    (8, decide (level ≤ 12 ∧ (code = 5 → level ≤ 2))),
    (10, decide (level = 0 → ¬interval)),
    (11, decide (if interval then 1 ≤ recByte b 6 ∧ recByte b 6 ≤ 60 else recByte b 6 = 0)),
    (12, decide (if interval then 1 ≤ recByte b 7 ∧ recByte b 7 ≤ 60 else recByte b 7 = 0)),
    (13, decide ((code = 1 → 1 ≤ paramA b) ∧ (code = 3 → paramA b = 0) ∧ (code = 4 → 50 ≤ paramA b ∧ paramA b ≤ 100) ∧
      (code = 5 → 1 ≤ paramA b ∧ paramA b ≤ 10000) ∧ (code = 6 → recByte b 8 ≤ 15 ∧ recByte b 9 ≤ 31))),
    (14, decide (if code = 4 then 1 ≤ paramB b ∧ paramB b ≤ 3600
      else if code = 5 then 1 ≤ paramB b ∧ paramB b ≤ 50 else paramB b = 0)),
    (16, decide (if recByte b 0 % 2 = 1 then recByte b 14 ≤ 31 else recByte b 14 = 0)) ]

/-- Under an end kind of Table 11-6 the model's checks are those of Table 1-4. -/
theorem fieldChecks_eq (rating : Nat) (b : StepBytes) (kind : 1 ≤ endCode b ∧ endCode b ≤ 6) :
    fieldChecks rating b = tableChecks rating b := by
  have counted : (!fromTemp b || decide (endCode b = 1)) = decide (recByte b 0 / 16 % 2 = 1 → endCode b = 1) := by
    rw [fromTemp_eq]; by_cases h : recByte b 0 / 16 % 2 = 1 <;> simp [h]
  have target : ((decide (recByte b 1 = 0) || within 30 200 (recByte b 1)) &&
      !(decide (recByte b 1 = 0) && (decide (endCode b = 2) || (decide (endCode b = 1) && fromTemp b)))) =
      decide ((recByte b 1 = 0 ∨ (30 ≤ recByte b 1 ∧ recByte b 1 ≤ 200)) ∧
        (endCode b = 2 ∨ (endCode b = 1 ∧ recByte b 0 / 16 % 2 = 1) → recByte b 1 ≠ 0)) := by
    rw [fromTemp_eq]
    by_cases h : recByte b 1 = 0 <;> by_cases c : recByte b 0 / 16 % 2 = 1 <;> simp [h, c, within_eq]
  have zeroed (n : Nat) (limit : Bool) : (limit && (decide (recByte b 1 ≠ 0) || decide (n = 0))) =
      decide (limit = true ∧ (recByte b 1 = 0 → n = 0)) := by
    by_cases h : recByte b 1 = 0 <;> simp [h]
  have level : (decide (recByte b 5 ≤ 12) && (decide (endCode b ≠ 5) || decide (recByte b 5 ≤ 2))) =
      decide (recByte b 5 ≤ 12 ∧ (endCode b = 5 → recByte b 5 ≤ 2)) := by
    by_cases h : endCode b = 5 <;> simp [h]
  have pattern : (decide (recPattern b = .continuous) || decide (recByte b 5 ≠ 0)) =
      decide (recByte b 5 = 0 → ¬recByte b 0 / 2 % 2 = 1) := by
    rw [recPattern_eq]; by_cases h : recByte b 0 / 2 % 2 = 1 <;> simp [h]
  have mark : (if raisePresent b = true then decide (recByte b 14 ≤ 31) else decide (recByte b 14 = 0)) =
      decide (if recByte b 0 % 2 = 1 then recByte b 14 ≤ 31 else recByte b 14 = 0) := by
    rw [raisePresent_eq]; by_cases h : recByte b 0 % 2 = 1 <;> simp [h]
  simp only [fieldChecks, tableChecks, within_eq 1 6, counted, target, zeroed, level, pattern, intervalValid_eq,
    paramAValid_eq b kind, paramBValid_eq, mark, decide_eq_true_eq]

/-- The first bad field is the first row of Table 1-4 that fails (R9): a code of no kind fails field 1 in both lists. -/
theorem firstBadField_eq (rating : Nat) (b : StepBytes) :
    firstBadField rating b = ((tableChecks rating b).find? fun c => !c.2).map (·.1) := by
  by_cases kind : 1 ≤ endCode b ∧ endCode b ≤ 6
  · rw [firstBadField, fieldChecks_eq rating b kind]
  · simp [firstBadField, fieldChecks, tableChecks, within_eq, kind]

/-! ## The reading of a record (Table 11-6) -/

theorem readRecord_isSome (b : StepBytes) : (readRecord b).isSome = true ↔ 1 ≤ endCode b ∧ endCode b ≤ 6 := by
  simp only [readRecord, Option.isSome_map, recKind]
  split
  case h_7 =>
    simp only [Option.isSome_none, Bool.false_eq_true, false_iff]
    rintro ⟨low, high⟩
    interval_cases code : endCode b <;> simp_all
  all_goals next code => simp [code]

/-- The end kind and its parameters, by the code of byte 0. -/
theorem readRecord_kind {b : StepBytes} {st : StepRec} (read : readRecord b = some st) :
    (endCode b = 1 → st.kind = .time (decide (recByte b 0 / 16 % 2 = 1)) (paramA b)) ∧
      (endCode b = 2 → st.kind = .temp (paramA b)) ∧ (endCode b = 3 → st.kind = .confirm) ∧
      (endCode b = 4 → st.kind = .holdAbove (paramA b) (paramB b)) ∧
      (endCode b = 5 → st.kind = .weigh (paramA b) (paramB b)) ∧
      (endCode b = 6 → ∀ (station : Station) (m : Fin 32), station.val = recByte b 8 → m.val = recByte b 9 →
        st.kind = .mark station m) := by
  obtain ⟨kind, named, rfl⟩ := Option.map_eq_some_iff.1 read
  rw [← fromTemp_eq]
  refine ⟨fun code => ?_, fun code => ?_, fun code => ?_, fun code => ?_, fun code => ?_, fun code station m hs hm => ?_⟩
  case refine_6 =>
    have named : EndKind.mark (Fin.ofNat 16 (recByte b 8)) (Fin.ofNat 32 (recByte b 9)) = kind := by
      simpa [recKind, code] using named
    rw [← named, ← hs, ← hm]
    simp
  all_goals
    simp only [recKind, code, Option.some.injEq] at named
    exact named.symm

theorem readRecord_fields {b : StepBytes} {st : StepRec} (read : readRecord b = some st) :
    (st.continues = true ↔ recByte b 0 / 8 % 2 = 1) ∧ st.target = recByte b 1 ∧ st.ramp = recByte b 2 ∧
      st.claimUnits = recByte b 3 ∧ st.holdUnits = recByte b 4 ∧
      st.setting = ⟨recByte b 5, if recByte b 0 / 4 % 2 = 1 then .reverse else .forward,
        if recByte b 0 / 2 % 2 = 1 then .interval else .continuous, recByte b 6, recByte b 7⟩ ∧
      st.timeout = 256 * recByte b 12 + recByte b 13 ∧ (¬recByte b 0 % 2 = 1 → st.raise = none) ∧
      (recByte b 0 % 2 = 1 → ∀ m : Fin 32, m.val = recByte b 14 → st.raise = some m) ∧ st.prompt = b[15] := by
  obtain ⟨kind, named, rfl⟩ := Option.map_eq_some_iff.1 read
  refine ⟨by simp [policyContinue_eq], rfl, rfl, rfl, rfl, by simp [recDirection_eq, recPattern_eq], rfl, fun absent => ?_,
    fun present m hm => ?_, rfl⟩
  · simp [raisePresent_eq, absent]
  · simp [raisePresent_eq, present, ← hm]

end Sys2Proof.Machine
end

-- ==== Slots are opened, loaded and closed ====
section
/-! SUPPORT. OPEN SLOT, STEP LOAD and CLOSE SLOT by the state of the slot they name. -/

namespace Sys2Proof.Machine

variable {s : State} {src : Station} {dst : Dest} {slot : Slot}

/-! ## The checks of CLOSE SLOT (R11 to R13) -/

theorem complete_iff (slot : Slot) : slot.complete = true ↔ ∀ i < slot.count, slot.recordAt i ≠ none := by
  simp [Slot.complete, Option.isSome_iff_ne_none]

theorem raisedBefore_iff (slot : Slot) (i : Nat) (m : Fin 32) :
    raisedBefore slot i m = true ↔ ∃ j < i, ((slot.recordAt j).bind readRecord).bind StepRec.raise = some m := by
  simp [raisedBefore]

theorem waitsOnSelf_iff (slot : Slot) (own : Station) (i : Nat) :
    waitsOnSelf slot own i = true ↔ ∃ m : Fin 32,
      ((slot.recordAt i).bind readRecord).map StepRec.kind = some (.mark own m) ∧ raisedBefore slot i m = false := by
  unfold waitsOnSelf
  split
  · next station m kind => simp [kind]
  · next other =>
    refine ⟨fun no => by simp at no, fun ⟨m, kind, _⟩ => absurd kind (other own m)⟩

/-- A recipe waits on itself when a step waits on an own mark that no earlier step raises (R13). -/
theorem selfWait_iff (slot : Slot) (own : Station) :
    slot.selfWait own = true ↔ ∃ i < slot.count, ∃ m : Fin 32,
      ((slot.recordAt i).bind readRecord).map StepRec.kind = some (.mark own m) ∧
        ∀ j < i, ((slot.recordAt j).bind readRecord).bind StepRec.raise ≠ some m := by
  have unraised (i : Nat) (m : Fin 32) : raisedBefore slot i m = false ↔
      ∀ j < i, ((slot.recordAt j).bind readRecord).bind StepRec.raise ≠ some m := by
    rw [← Bool.not_eq_true, raisedBefore_iff]
    push Not
    exact Iff.rfl
  simp only [Slot.selfWait, List.any_eq_true, List.mem_range, waitsOnSelf_iff, unraised]

section Loading

variable (loading : slot.state = .loading) (own : Station) (check : Word16)
include loading

theorem closeCheck_incomplete (missing : ¬slot.complete = true) : closeCheck slot own check = .incomplete := by
  simp [closeCheck, loading, missing]

theorem closeCheck_mismatch (complete : slot.complete = true) (differs : presentCheck slot ≠ check.toNat) :
    closeCheck slot own check = .checkMismatch := by
  simp [closeCheck, loading, complete, differs]

theorem closeCheck_selfWait (complete : slot.complete = true) (same : presentCheck slot = check.toNat)
    (waits : slot.selfWait own = true) : closeCheck slot own check = .selfWait := by
  simp [closeCheck, loading, complete, same, waits]

theorem closeCheck_done (complete : slot.complete = true) (same : presentCheck slot = check.toNat)
    (free : ¬slot.selfWait own = true) : closeCheck slot own check = .done := by
  simp [closeCheck, loading, complete, same, free]

end Loading

/-! ## The slot commands on a slot of the store -/

section Slots

variable {b : Byte} {k : Fin 4} (panel : FromPanel src dst s) (same : b.toNat = k.val)
include panel

theorem slots_outside (outside : 4 ≤ b.toNat) (count index : Byte) (check : Word16) (record : StepBytes) :
    exec (.openSlot src dst (some (b, count))) s = .next (commandReplied src .badField (noted src s)) ∧
      exec (.closeSlot src dst (some (b, check))) s = .next (commandReplied src .badField (noted src s)) ∧
      exec (.stepLoad src dst b index record) s =
        .next (setReplySlot (some ⟨src, 5, .badField, 0, []⟩) (noted src s)) := by
  refine ⟨ran_takeCommand panel _ (by rw [openSlotAct, atSlot_of_outside outside]),
    ran_takeCommand panel _ (by rw [closeSlotAct, atSlot_of_outside outside]), ran_takeRequest panel.1 ?_⟩
  have passed : panelCheck src (noted src s) = none := by simp [panelCheck, panel.2]
  simp only [handleLoad, slotOf_of_le outside, passed]
  rfl

include same

theorem openSlot_running (running : s.slots[k].state = .running) (count : Byte) :
    exec (.openSlot src dst (some (b, count))) s = .next (commandReplied src .slotBusy (noted src s)) :=
  ran_takeCommand panel _ (by rw [openSlotAct, atSlot_of_running same (by simpa using running)])

omit panel in
theorem openSlot_free (free : s.slots[k].state ≠ .running) (count : Byte) :
    openSlotAct (some (b, count)) (noted src s) =
      if within 1 32 count.toNat then
        (.done, setSlot k ⟨.loading, count.toNat, Vector.replicate 32 none⟩ (noted src s))
      else (.badField, noted src s) := by
  rw [openSlotAct, atSlot_of_free same (by simpa using free)]

theorem openSlot_bad (free : s.slots[k].state ≠ .running) {count : Byte}
    (outside : count.toNat = 0 ∨ 32 < count.toNat) :
    exec (.openSlot src dst (some (b, count))) s = .next (commandReplied src .badField (noted src s)) := by
  refine ran_takeCommand panel _ ((openSlot_free same free count).trans (if_neg ?_))
  rw [within_eq, decide_eq_true_eq]
  omega

theorem openSlot_done (free : s.slots[k].state ≠ .running) {count : Byte} (low : 1 ≤ count.toNat)
    (high : count.toNat ≤ 32) :
    exec (.openSlot src dst (some (b, count))) s = .next (commandReplied src .done
      (setSlot k ⟨.loading, count.toNat, Vector.replicate 32 none⟩ (noted src s))) :=
  ran_takeCommand panel _ ((openSlot_free same free count).trans (if_pos (by simp [within_eq, low, high])))

/-- A STEP LOAD is answered by the check of its slot, with the SLOT data (R10, R183). -/
theorem stepLoad_at (index : Byte) (record : StepBytes) :
    exec (.stepLoad src dst b index record) s = .next (loadAt src k index record (noted src s)) := by
  have passed : panelCheck src (noted src s) = none := by simp [panelCheck, panel.2]
  refine ran_takeRequest panel.1 ?_
  simp only [handleLoad, slotOf_of_eq same, passed]

theorem closeSlot_running (running : s.slots[k].state = .running) (check : Word16) :
    exec (.closeSlot src dst (some (b, check))) s = .next (commandReplied src .slotBusy (noted src s)) :=
  ran_takeCommand panel _ (by rw [closeSlotAct, atSlot_of_running same (by simpa using running)])

theorem closeSlot_refused (free : s.slots[k].state ≠ .running) {check : Word16} {r : ResultCode}
    (checked : closeCheck s.slots[k] s.own check = r) (bad : r ≠ .done) :
    exec (.closeSlot src dst (some (b, check))) s = .next (commandReplied src r (noted src s)) := by
  refine ran_takeCommand panel _ ?_
  rw [closeSlotAct, atSlot_of_free same (by simpa using free)]
  simp only [noted_frame, noted_own, checked, bad, if_false]

theorem closeSlot_done (free : s.slots[k].state ≠ .running) {check : Word16}
    (checked : closeCheck s.slots[k] s.own check = .done) :
    exec (.closeSlot src dst (some (b, check))) s =
      .next (commandReplied src .done (setSlot k { s.slots[k] with state := .ready } (noted src s))) := by
  refine ran_takeCommand panel _ ?_
  rw [closeSlotAct, atSlot_of_free same (by simpa using free)]
  simp only [noted_frame, noted_own, checked, if_true]

end Slots

/-! ## STEP LOAD on a slot of the store (R10) -/

/-- The REPLY of a STEP LOAD with the SLOT data of the slot it named. -/
def loadReplied (src : Station) (k : Fin 4) (r : ResultCode) (field : Nat) (t : State) : State :=
  setReplySlot (some ⟨src, 5, r, BitVec.ofNat 8 field, slotData t.slots[k]⟩) t

theorem loadAt_refused {k : Fin 4} {index : Byte} {record : StepBytes} {r : ResultCode} {field : Nat}
    (checked : loadCheck s.slots[k] s.rating index record = (r, field)) (bad : r ≠ .done) :
    loadAt src k index record s = loadReplied src k r field s := by
  simp only [loadAt, checked, bad, if_false]
  rfl

theorem loadAt_done {k : Fin 4} {index : Byte} {record : StepBytes}
    (checked : loadCheck s.slots[k] s.rating index record = (.done, 0)) :
    loadAt src k index record s = loadReplied src k .done 0 (setSlot k (s.slots[k].store index.toNat record) s) := by
  simp only [loadAt, checked, if_true]
  rfl

theorem loadCheck_outside (loading : slot.state = .loading) {index : Byte}
    (outside : slot.count ≤ index.toNat ∨ 32 ≤ index.toNat) (rating : Nat) (record : StepBytes) :
    loadCheck slot rating index record = (.badField, 0) := by
  have beyond : ¬(index.toNat < 32 ∧ index.toNat < slot.count) := by omega
  simp [loadCheck, loading, beyond]

theorem loadCheck_bad (loading : slot.state = .loading) {index : Byte} (low : index.toNat < 32)
    (inside : index.toNat < slot.count) {rating field : Nat} {record : StepBytes}
    (bad : firstBadField rating record = some field) : loadCheck slot rating index record = (.badField, field) := by
  simp [loadCheck, loading, low, inside, bad]

theorem loadCheck_done (loading : slot.state = .loading) {index : Byte} (low : index.toNat < 32)
    (inside : index.toNat < slot.count) {rating : Nat} {record : StepBytes}
    (valid : firstBadField rating record = none) : loadCheck slot rating index record = (.done, 0) := by
  simp [loadCheck, loading, low, inside, valid]

theorem store_records (slot : Slot) {index : Nat} {i : Fin 32} (same : index = i.val) (record : StepBytes) :
    (slot.store index record).records[i] = some record ∧
      ∀ j : Fin 32, j ≠ i → (slot.store index record).records[j] = slot.records[j] := by
  subst same
  simp only [Slot.store]
  exact ⟨by simp, fun j other => by simp [Fin.val_ne_of_ne other.symm]⟩

section Answers

variable {b index : Byte} {k : Fin 4} {record : StepBytes} (panel : FromPanel src dst s) (same : b.toNat = k.val)
include panel same

theorem stepLoad_refused {r : ResultCode} {field : Nat} (checked : loadCheck s.slots[k] s.rating index record = (r, field))
    (bad : r ≠ .done) :
    exec (.stepLoad src dst b index record) s = .next (loadReplied src k r field (noted src s)) := by
  have checked : loadCheck (noted src s).slots[k] (noted src s).rating index record = (r, field) := by
    simpa only [noted_frame, noted_rating] using checked
  rw [stepLoad_at panel same, loadAt_refused checked bad]

theorem stepLoad_done (checked : loadCheck s.slots[k] s.rating index record = (.done, 0)) :
    exec (.stepLoad src dst b index record) s =
      .next (loadReplied src k .done 0 (setSlot k (s.slots[k].store index.toNat record) (noted src s))) := by
  have checked : loadCheck (noted src s).slots[k] (noted src s).rating index record = (.done, 0) := by
    simpa only [noted_frame, noted_rating] using checked
  rw [stepLoad_at panel same, loadAt_done checked]
  simp only [noted_frame]

end Answers

/-- Settles O46: the table of fields, then each command of the step store by the state of the slot it names. -/
theorem slotsAreOpenedLoadedAndClosed : Obligations.SlotsAreOpenedLoadedAndClosed := by
  constructor
  · intro rating b byte
    refine ⟨firstBadField_eq rating b, readRecord_isSome b, fun st read => ?_⟩
    obtain ⟨time, temp, confirm, above, weigh, mark⟩ := readRecord_kind read
    exact ⟨time, temp, confirm, above, weigh, mark, readRecord_fields read⟩
  · intro src dst b s panel n
    refine ⟨fun outside count index check record => slots_outside panel outside count index check record, ?_⟩
    intro k same old
    have kept (new : Slot) (j : Fin 4) (other : j ≠ k) : (setSlot k new n).slots[j] = s.slots[j] :=
      ((setSlot_slots k new n).2 j other).trans (by simp [n])
    refine ⟨fun count => ⟨fun running => openSlot_running panel same running count,
      fun free outside => openSlot_bad panel same free outside, fun free low high => ?_⟩, fun index record => ?_,
      fun check => ?_⟩
    · refine ⟨_, openSlot_done panel same free low high, ?_⟩
      rw [(setSlot_slots k _ n).1]
      exact ⟨rfl, rfl, fun i => by simp, kept _, rfl⟩
    · have answers {r : ResultCode} {field : Nat} (checked : loadCheck old s.rating index record = (r, field))
          (bad : r ≠ .done) :
          exec (.stepLoad src dst b index record) s = .next (loadReplied src k r field n) :=
        stepLoad_refused panel same checked bad
      refine ⟨fun idle => answers ?_ (by decide), fun running => answers ?_ (by decide),
        fun loading => ⟨fun outside => answers (loadCheck_outside loading outside _ _) (by decide), ?_⟩⟩
      · rcases idle with empty | ready
        · simp [loadCheck, empty]
        · simp [loadCheck, ready]
      · simp [loadCheck, running]
      · intro i at_i inside
        have low : index.toNat < 32 := at_i ▸ i.isLt
        have below : index.toNat < old.count := at_i ▸ inside
        refine ⟨fun field bad => answers (loadCheck_bad loading low below bad) (by decide), fun valid => ?_⟩
        obtain ⟨stored, others⟩ := store_records old at_i record
        refine ⟨_, stepLoad_done panel same (loadCheck_done loading low below valid), ?_⟩
        rw [(setSlot_slots k _ (noted src s)).1]
        exact ⟨stored, others, loading, rfl, kept _, rfl⟩
    · intro close step complete sum waits
      have refused {r : ResultCode} (free : old.state ≠ .running) (checked : closeCheck old s.own check = r)
          (bad : r ≠ .done) : close = .next (commandReplied src r n) := closeSlot_refused panel same free checked bad
      have summed : presentCheck old = sum := presentCheck_eq old
      have full : old.complete = true ↔ complete := complete_iff old
      have self : old.selfWait s.own = true ↔ waits := selfWait_iff old s.own
      refine ⟨fun idle => ?_, fun running => closeSlot_running panel same running check, fun loading => ?_⟩
      · rcases idle with empty | ready
        · exact refused (by simp [empty]) (by simp [closeCheck, empty]) (by decide)
        · exact refused (by simp [ready]) (by simp [closeCheck, ready]) (by decide)
      · have free : old.state ≠ .running := by simp [loading]
        rw [← full, ← self, ← summed]
        refine ⟨fun missing => refused free (closeCheck_incomplete loading _ _ missing) (by decide),
          fun present differs => refused free (closeCheck_mismatch loading _ _ present differs) (by decide),
          fun present equal waiting => refused free (closeCheck_selfWait loading _ _ present equal waiting) (by decide),
          fun present equal waitless => ?_⟩
        refine ⟨_, closeSlot_done panel same free (closeCheck_done loading _ _ present equal waitless), ?_⟩
        rw [(setSlot_slots k _ (noted src s)).1]
        exact ⟨rfl, kept _, rfl⟩

end Sys2Proof.Machine
end

-- ==== Queries answer from the state ====
section
/-! SUPPORT. The data of each query byte by byte, and the REPLY a directed query queues (R184, Tables 11-8 and 11-9). -/

namespace Sys2Proof.Machine

variable {s : State} {src : Station} {dst : Dest}

/-! ## The data of the replies (Tables 11-8 and 11-9) -/

theorem statusData_eq (s : State) : statusData s =
    [u8 s.engine.state.code, u8 (match s.engine.slot with | none => 255 | some k => k.val),
      u8 (match s.engine.slot with | none => 0 | some _ => s.engine.index),
      u8 (s.engine.phase.code + flagBit 7 s.engine.atTemp), u8 s.engine.causes.code, u8 (faultByte s.engine.fault),
      s.engine.tag] ++ u24 s.engine.clock ++ [u8 s.ownRow.want, u8 s.ownRow.grant, u8 s.share.usable] ++
      u16 s.journal.written := by
  simp only [statusData]
  generalize s.engine.slot = slot
  cases slot <;> rfl

/-- The reply of a step entry, its absent quantities and an absent ending sent as 0 (Table 11-9). -/
theorem stepEntry_reply (e : StepEntry) : (JournalEntry.step e).reply =
    (1, [e.tag, u8 (64 * (match e.slot with | none => 0 | some k => k.val) + e.index % 32)] ++ u24 e.start ++ [u8 e.holds] ++
      (match e.peak with | none => [0, 0] | some q => i16 (reportedGrams q)) ++
      (match e.added with | none => [0, 0] | some g => i16 (reportedGrams g)) ++
      [u8 (flagBit 0 e.peak.isSome + flagBit 1 e.added.isSome + flagBit 2 (e.overTarget = some true) +
        flagBit 3 e.ending.isSome)] ++
      match e.ending with
      | none => [0, 0, 0, 0]
      | some (second, c) => u24 second ++ [u8 c.code]) := by
  obtain ⟨tag, slot, index, start, holds, peak, added, overTarget, ending⟩ := e
  have place : slotIndexByte slot index = u8 (64 * (match slot with | none => 0 | some k => k.val) + index % 32) := by
    cases slot with
    | none => simp only [slotIndexByte, Nat.mul_zero, Nat.zero_add]
    | some k => rfl
  have quantity (z : Option Int) : optI16 z = match z with | none => [0, 0] | some v => i16 (reportedGrams v) := by
    cases z <;> rfl
  simp only [JournalEntry.reply, place, quantity]
  cases ending <;> rfl

theorem stationOf_of_eq {b : Byte} {i : Station} (same : b.toNat = i.val) : stationOf b = some i := by
  simp [stationOf, same]

theorem stationOf_of_le {b : Byte} (outside : 16 ≤ b.toNat) : stationOf b = none := by simp [stationOf, outside]

/-! ## A directed query (R184) -/

section Directed

variable (directed : Directed src dst s)
include directed

theorem query_notSet (unset : s.handler.panel = none) (item : State → Option (Byte × List Byte)) :
    ran (takeQuery src dst item) s = .next (setReplySlot (some ⟨src, 6, .notSet, 0, []⟩) (noted src s)) := by
  refine ran_takeRequest directed ?_
  rw [handleQuery, if_pos (by simpa using unset)]
  rfl

theorem query_badField (set : s.handler.panel ≠ none) {item : State → Option (Byte × List Byte)}
    (outside : item (noted src s) = none) :
    ran (takeQuery src dst item) s = .next (setReplySlot (some ⟨src, 6, .badField, 0, []⟩) (noted src s)) := by
  refine ran_takeRequest directed ?_
  rw [handleQuery, if_neg (by simpa using set), outside]
  rfl

theorem query_done (set : s.handler.panel ≠ none) {item : State → Option (Byte × List Byte)} {detail : Byte}
    {data : List Byte} (found : item (noted src s) = some (detail, data)) :
    ran (takeQuery src dst item) s = .next (setReplySlot (some ⟨src, 6, .done, detail, data⟩) (noted src s)) := by
  refine ran_takeRequest directed ?_
  rw [handleQuery, if_neg (by simpa using set), found]
  rfl

theorem status_done : exec (.status src dst) s = .next (setReplySlot
    (some ⟨src, 6, .done, u8 s.line.participation.code, statusData (noted src s)⟩) (noted src s)) := by
  refine ran_takeRequest directed ?_
  rw [statusReply, noted_participation]
  rfl

/-- An item code outside Table 11-8 is UNKNOWN, before SETUP NOT_SET (log entry 23). -/
theorem unknownItem_refused {item : Byte} (unlisted : item.toNat = 0 ∨ 8 ≤ item.toNat) (index : Byte) :
    exec (.unknownItem src dst item index) s = .next (setReplySlot
      (some ⟨src, 6, if s.handler.panel = none then .notSet else .unknown, 0, []⟩) (noted src s)) := by
  have unknown : knownItem item = false := by
    rw [knownItem, within_eq, decide_eq_false_iff_not]
    omega
  show ran (fun s => if knownItem item then s else takeRequest src dst (unknownItemReply src) s) s = _
  rw [ran_of_high _ _ directed.1.1]
  simp only [unknown, Bool.false_eq_true, if_false, takeRequest_directed directed, unknownItemReply, noted_frame]
  rfl

end Directed

/-! ## The items at a noted state -/

theorem sampleItem_noted (src : Station) (s : State) :
    sampleItem (noted src s) = some (sampleDetail s, sampleData s) := by
  simp [sampleItem, sampleDetail, sampleData, netWeight]

theorem slotItem_noted {index : Byte} {k : Fin 4} (same : index.toNat = k.val) (src : Station) (s : State) :
    slotItem index (noted src s) = some (0, slotData s.slots[k]) := by
  simp only [slotItem, slotOf_of_eq same, noted_frame, Option.map_some]

theorem stepItem_noted {index : Byte} {k : Fin 4} (inside : index.getLsbD 5 = false) (same : index.toNat / 64 = k.val)
    (src : Station) (s : State) :
    stepItem index (noted src s) = some (stepReply s.slots[k] (index.toNat % 32)) := by
  have slot : stepQuerySlot index = k := Fin.ext same
  simp only [stepItem, inside, Bool.false_eq_true, if_false, slot, noted_frame]

theorem stepReply_present {slot : Slot} {i : Nat} {b : StepBytes} (below : i < slot.count)
    (present : slot.recordAt i = some b) : stepReply slot i = (1, b.toList) := by
  simp [stepReply, storedRecord, below, present]

theorem stepReply_absent {slot : Slot} {i : Nat} (absent : slot.count ≤ i ∨ slot.recordAt i = none) :
    stepReply slot i = (0, []) := by
  have stored : storedRecord slot i = none := by
    unfold storedRecord
    split
    · next below => exact absent.resolve_left (Nat.not_le.2 below)
    · rfl
  simp [stepReply, stored]

theorem journalItem_noted (index : Byte) (src : Station) (s : State) :
    journalItem index (noted src s) = some (journalReply s.journal index.toNat) := by
  simp only [journalItem, noted_frame]

theorem journalReply_present {j : Journal} {k : Nat} {e : JournalEntry} (present : j.entries.reverse[k]? = some e) :
    journalReply j k = e.reply := by
  simp only [journalReply, present]

theorem journalReply_absent {j : Journal} {k : Nat} (beyond : j.entries.length ≤ k) : journalReply j k = (0, []) := by
  have none : j.entries.reverse[k]? = none := by simpa using beyond
  simp only [journalReply, none]

theorem marksItem_noted {index : Byte} {i : Station} (same : index.toNat = i.val) (src : Station) (s : State) :
    marksItem index (noted src s) = some (0, bytes32 s.board.rows[i]) := by
  simp only [marksItem, stationOf_of_eq same, marksData, noted_frame, Option.map_some]

theorem rowItem_of_eq {index : Byte} {i : Station} (same : index.toNat = i.val) (s : State) :
    rowItem index s = some (0, rowData s i) := by
  simp only [rowItem, stationOf_of_eq same, Option.map_some]

theorem items_outside {index : Byte} (outside : 16 ≤ index.toNat) (s : State) :
    rowItem index s = none ∧ marksItem index s = none := by
  simp [rowItem, marksItem, stationOf_of_le outside]

/-- Settles O47: the data byte by byte, then each query's REPLY from the state in which its frame is noted. -/
theorem queriesAnswerFromTheState : Obligations.QueriesAnswerFromTheState := by
  unfold Obligations.QueriesAnswerFromTheState
  intro b two three signed bit temperature fault cause
  refine ⟨fun s => ⟨statusData_eq s, rfl, rfl⟩, fun slot => ?slot, stepEntry_reply, fun tag second event => ?station,
    fun index s => ⟨fun outside => (items_outside outside s).1, fun i same => rowItem_of_eq same s⟩, ?queries⟩
  case slot => rw [← presentCheck_eq]; rfl
  case station => cases event <;> rfl
  case queries =>
    intro src dst index item s directed unlisted n done without
    refine ⟨status_done directed, by rw [statusData_eq]; rfl, fun unset c listed => ?unset, fun set => ?set⟩
    case unset =>
      simp only [List.mem_cons, List.not_mem_nil, or_false] at listed
      rcases listed with rfl | rfl | rfl | rfl | rfl | rfl | rfl
      case inr.inr.inr.inr.inr.inr => exact (unknownItem_refused directed unlisted index).trans (by rw [if_pos unset])
      all_goals exact query_notSet directed unset _
    case set =>
      refine ⟨⟨query_done directed set (sampleItem_noted src s), rfl⟩,
        fun i same => ⟨query_done directed set (rowItem_of_eq same n), query_done directed set (marksItem_noted same src s)⟩,
        fun outside => ⟨query_badField directed set (items_outside outside n).1,
          query_badField directed set (items_outside outside n).2⟩,
        fun k same => query_done directed set (slotItem_noted same src s),
        fun outside => query_badField directed set (by rw [slotItem, slotOf_of_le outside]; rfl),
        fun outside => query_badField directed set (by simp only [stepItem, outside, if_true]),
        fun inside k same => ⟨fun r below present => ?_, fun absent => ?_⟩, fun beyond => ?_, fun e present => ?_,
        (unknownItem_refused directed unlisted index).trans (by rw [if_neg set])⟩
      · exact query_done directed set ((stepItem_noted inside same src s).trans (by rw [stepReply_present below present]))
      · exact query_done directed set ((stepItem_noted inside same src s).trans (by rw [stepReply_absent absent]))
      · exact query_done directed set ((journalItem_noted index src s).trans (by rw [journalReply_absent beyond]))
      · exact query_done directed set ((journalItem_noted index src s).trans (by rw [journalReply_present present]))

end Sys2Proof.Machine
end

-- ==== What the engine counts at a sample set, and what completes a step ====
section
/-! SUPPORT. The tests of a sample set (R30, R37), the engine's counters after it (R31), and the end conditions (R32 to R37). -/

namespace Sys2Proof.Machine

variable {s : State}

/-! ## The target test and the threshold (R30, R37) -/

theorem tempInRange_iff (count : Nat) : tempInRange count = true ↔ 300 ≤ count ∧ count ≤ 1500 := by
  simp [tempInRange, within]

theorem targetReached_none (target count : Nat) : targetReached none target count = false := by
  simp [targetReached]

theorem targetReached_heating (target count : Nat) :
    targetReached (some .heating) target count = true ↔
      300 ≤ count ∧ count ≤ 1500 ∧ 4 * ((target : Int) - 1) ≤ (count : Int) - 400 := by
  simp [targetReached, tempInRange_iff, quarter, and_assoc, mul_sub]

theorem targetReached_cooling (target count : Nat) :
    targetReached (some .cooling) target count = true ↔
      300 ≤ count ∧ count ≤ 1500 ∧ (count : Int) - 400 ≤ 4 * ((target : Int) + 1) := by
  simp [targetReached, tempInRange_iff, quarter, and_assoc, mul_add]

/-- A HOLD_ABOVE step reads FOOD with the probe, else BASE (R37). -/
theorem holdAboveCount_eq (s : State) (set : SampleSet) :
    holdAboveCount s set =
      let count := if s.handler.probe = true then set.food else set.base
      let out := if s.handler.probe = true then s.chan.foodRange.present else s.chan.baseRange.present
      if out = true ∨ count < 300 ∨ 1500 < count then none else some count := by
  have outside (count : Nat) : tempInRange count = false ↔ count < 300 ∨ 1500 < count := by
    rw [← Bool.not_eq_true, tempInRange_iff]; omega
  cases probe : s.handler.probe <;> simp [holdAboveCount, probe, outside]

theorem Engine.accumulate_above (e : Engine) {threshold count : Nat} (above : 4 * (threshold : Int) ≤ (count : Int) - 400) :
    e.accumulate threshold (some count) = { e with accumulator := e.accumulator + 1, dip := 0 } := by
  have reached : 4 * (threshold : Int) ≤ quarter count := above
  simp [Engine.accumulate, reached]

theorem Engine.accumulate_below (e : Engine) {threshold count : Nat} (below : (count : Int) - 400 < 4 * (threshold : Int)) :
    e.accumulate threshold (some count) =
      if 10 ≤ e.dip then { e with accumulator := 0, dip := 11 } else { e with dip := e.dip + 1 } := by
  have under : ¬4 * (threshold : Int) ≤ quarter count := Int.not_le.2 below
  simp [Engine.accumulate, under]

/-- Settles O28: the target test by the approach, then a second of HOLD_ABOVE by what its channel reads. -/
theorem targetAndThresholdTests : Obligations.TargetAndThresholdTests := by
  refine ⟨fun target count => ⟨targetReached_none _ _, targetReached_heating _ _, targetReached_cooling _ _⟩, ?_⟩
  intro e threshold s set count out r
  have reading : r = e.accumulate threshold (if out = true ∨ count < 300 ∨ 1500 < count then none else some count) :=
    congrArg (e.accumulate threshold) (holdAboveCount_eq s set)
  constructor
  · intro unread
    rw [reading, if_pos unread]
    rfl
  · intro present low high
    rw [reading, if_neg (by simp [present]; omega)]
    refine ⟨e.accumulate_above, fun below => ⟨fun few => ?_, fun many => ?_⟩⟩
    · rw [e.accumulate_below below, if_neg (by omega)]
    · rw [e.accumulate_below below, if_pos many]

/-! ## The counters of a set in RUN (R31 to R33, R37, R39) -/

theorem Engine.targetTest_atTemp (e : Engine) (target : Nat) (set : SampleSet) :
    (e.targetTest target set).atTemp = true ↔ e.atTemp = true ∨ targetReached e.approach target set.base = true := by
  cases at_temp : e.atTemp <;> cases reached : targetReached e.approach target set.base <;>
    simp [Engine.targetTest, at_temp, reached]

theorem Engine.targetTest_phase (e : Engine) (target : Nat) (set : SampleSet) :
    (e.targetTest target set).phase =
      if e.phase = .approaching ∧ e.atTemp = false ∧ targetReached e.approach target set.base = true then .counting
      else e.phase := by
  cases at_temp : e.atTemp <;> cases reached : targetReached e.approach target set.base <;>
    simp [Engine.targetTest, at_temp, reached]

/-- The engine record in RUN as the phase's counters find it (R31, items 1 to 3). -/
def setTick (st : StepRec) (set : SampleSet) (e : Engine) : Engine :=
  if set.boundary = true then boundaryTick st set e else e.targetTest st.target set

theorem setTick_eq (st : StepRec) (set : SampleSet) (e : Engine) :
    setTick st set e = { e with
      clock := if set.boundary = true then min 16777215 (e.clock + 1) else e.clock
      timeout := if set.boundary = true then min 65535 (e.timeout + 1) else e.timeout
      atTemp := (e.targetTest st.target set).atTemp
      phase := (e.targetTest st.target set).phase } := by
  unfold setTick boundaryTick Engine.targetTest Engine.tick
  (repeat' split) <;> rfl

theorem runCounts_setTick (st : StepRec) (set : SampleSet) (s : State) :
    runCounts st set s = if set.boundary = true then phaseCount s.engine.phase st s set (setTick st set s.engine)
      else setTick st set s.engine := by
  cases boundary : set.boundary <;> simp [runCounts, setTick, boundaryTick, boundary]

/-- The counters of the phase are the duration counter, the accumulator and the dip count (R31, item 4). -/
theorem phaseCount_eq (before : Phase) (st : StepRec) (s : State) (set : SampleSet) (e : Engine) :
    phaseCount before st s set e = { e with
      duration := if before = .counting then min 65535 (e.duration + 1) else e.duration
      accumulator := (phaseCount before st s set e).accumulator
      dip := (phaseCount before st s set e).dip } := by
  unfold phaseCount
  split
  · rfl
  · rw [Engine.accumulate_eq]; rfl
  · next other _ => rw [if_neg fun counting => other counting]

theorem phaseCount_holdAbove {st : StepRec} {threshold seconds : Nat} (kind : st.kind = .holdAbove threshold seconds)
    (s : State) (set : SampleSet) (e : Engine) :
    phaseCount .accumulating st s set e = e.accumulate threshold (holdAboveCount s set) := by
  simp only [phaseCount, kind]

theorem phaseCount_idle {before : Phase} (other : before ≠ .accumulating) (st : StepRec) (s : State) (set : SampleSet)
    (e : Engine) : (phaseCount before st s set e).accumulator = e.accumulator ∧ (phaseCount before st s set e).dip = e.dip := by
  unfold phaseCount
  split
  · exact ⟨rfl, rfl⟩
  · exact absurd rfl other
  · exact ⟨rfl, rfl⟩

/-- The accumulator and the dip count depend on no other field of the record (R37). -/
theorem Engine.accumulate_congr {e e' : Engine} (accumulator : e'.accumulator = e.accumulator) (dip : e'.dip = e.dip)
    (threshold : Nat) (reading : Option Nat) :
    (e'.accumulate threshold reading).accumulator = (e.accumulate threshold reading).accumulator ∧
      (e'.accumulate threshold reading).dip = (e.accumulate threshold reading).dip := by
  unfold Engine.accumulate
  rw [accumulator, dip]
  (repeat' split) <;> exact ⟨by simp [accumulator], by simp [dip]⟩

/-- The engine record after a set in RUN: beside the counters below, the accumulator and the dip count (R31). -/
theorem runCounts_eq (st : StepRec) (set : SampleSet) (s : State) :
    runCounts st set s = { s.engine with
      clock := if set.boundary = true then min 16777215 (s.engine.clock + 1) else s.engine.clock
      timeout := if set.boundary = true then min 65535 (s.engine.timeout + 1) else s.engine.timeout
      atTemp := (s.engine.targetTest st.target set).atTemp
      phase := (s.engine.targetTest st.target set).phase
      duration := if set.boundary = true ∧ s.engine.phase = .counting then min 65535 (s.engine.duration + 1)
        else s.engine.duration
      accumulator := (runCounts st set s).accumulator
      dip := (runCounts st set s).dip } := by
  have ticked := setTick_eq st set s.engine
  rw [runCounts_setTick]
  split
  · next boundary =>
    rw [phaseCount_eq, ticked]
    simp only [boundary, true_and, if_true]
  · next inside =>
    simp [ticked, inside]

/-- Beside the counters a set leaves the engine record (R31). -/
theorem runCounts_frame (st : StepRec) (set : SampleSet) (s : State) :
    runCounts st set s = { s.engine with
      clock := (runCounts st set s).clock, timeout := (runCounts st set s).timeout, atTemp := (runCounts st set s).atTemp
      phase := (runCounts st set s).phase, duration := (runCounts st set s).duration
      accumulator := (runCounts st set s).accumulator, dip := (runCounts st set s).dip } := by
  rw [runCounts_eq]

/-- A second boundary in a HOLD_ABOVE step (R37). -/
theorem runCounts_accumulates {st : StepRec} {set : SampleSet} {threshold seconds : Nat}
    (kind : st.kind = .holdAbove threshold seconds) (boundary : set.boundary = true)
    (phase : s.engine.phase = .accumulating) :
    (runCounts st set s).accumulator = (s.engine.accumulate threshold (holdAboveCount s set)).accumulator ∧
      (runCounts st set s).dip = (s.engine.accumulate threshold (holdAboveCount s set)).dip := by
  have ticked := setTick_eq st set s.engine
  rw [runCounts_setTick, if_pos boundary, phase, phaseCount_holdAbove kind]
  refine Engine.accumulate_congr ?_ ?_ _ _ <;> rw [ticked]

theorem runCounts_accumulates_not (st : StepRec) {set : SampleSet}
    (other : set.boundary = false ∨ s.engine.phase ≠ .accumulating) :
    (runCounts st set s).accumulator = s.engine.accumulator ∧ (runCounts st set s).dip = s.engine.dip := by
  rw [runCounts_setTick, setTick_eq]
  split
  · next boundary => exact phaseCount_idle (other.resolve_left (by simp [boundary])) _ _ _ _
  · exact ⟨rfl, rfl⟩

/-! ## A set at the engine in each state (R31, R43, R46) -/

theorem engineSampleSet_eq {d : Delivery} {rest : List Delivery} (high : s.resetN = true)
    (queued : s.inbox.engine = d :: rest) :
    exec .engineSampleSet s = .next { engineSetOp d.set (atDelivery d rest s) with chan := s.chan } :=
  (ran_of_high _ _ high).trans (congrArg _ (takeEngineSet_cons queued _))

theorem engineSetOp_hold (set : SampleSet) (hold : s.engine.state = .hold) :
    engineSetOp set s = notePeak set.base { s with engine := { s.engine with
      clock := if set.boundary = true then min 16777215 (s.engine.clock + 1) else s.engine.clock } } := by
  have op : engineSetOp set s = holdSet set s := by simp only [engineSetOp, hold]
  rw [op, holdSet]
  split <;> rfl

theorem engineSetOp_idle (set : SampleSet) (idle : s.engine.state.active = false) : engineSetOp set s = s := by
  cases state : s.engine.state
  case run | hold => simp [state, EngineState.active] at idle
  all_goals simp only [engineSetOp, state]

/-- Settles O27: in RUN the set moves the counters alone, since neither the step nor its timeout ends; in HOLD the run clock; outside
both nothing. -/
theorem engineCountsAtEachSampleSet : Obligations.EngineCountsAtEachSampleSet := by
  intro s d rest high queued set u v clock peaked
  refine ⟨fun st run step goes early => ?_, fun hold => ?_, fun idle => ?_⟩
  · have counts := runCounts_eq st set v
    have early : timeoutDue st set (engineProgress st set v) = false := by
      have timeout : (runCounts st set v).timeout = _ := congrArg Engine.timeout counts
      cases boundary : set.boundary
      · simp [timeoutDue, boundary]
      · simpa [timeoutDue, boundary, timeout, or_iff_not_imp_left] using early boundary
    have answers := (TakesInRun.mk high queued step run).sampleSet
    rw [show runSet st d.set (atDelivery d rest s) = _ from runSet_stays goes early] at answers
    refine ⟨_, answers, congrArg Engine.clock counts, congrArg Engine.timeout counts, ?_, ?_,
      congrArg Engine.duration counts, fun threshold seconds kind boundary phase => runCounts_accumulates kind boundary phase,
      fun other => runCounts_accumulates_not st other, ?_, rfl⟩
    · exact (iff_of_eq (congrArg (·.atTemp = true) counts)).trans (Engine.targetTest_atTemp _ _ _)
    · exact (congrArg Engine.phase counts).trans (Engine.targetTest_phase _ _ _)
    · exact runCounts_frame st set v
  · rw [engineSampleSet_eq high queued, engineSetOp_hold (s := atDelivery d rest s) _ hold]
    rfl
  · rw [engineSampleSet_eq high queued, engineSetOp_idle (s := atDelivery d rest s) _ idle]
    rfl

/-! ## The end conditions (R32 to R37, R40) -/

/-- The duration of a step that the duration counter ends: TIME or TEMP (R32 to R34). -/
def StepRec.EndsAfter (st : StepRec) (seconds : Nat) : Prop :=
  st.kind = .temp seconds ∨ ∃ b, st.kind = .time b seconds

theorem StepRec.EndsAfter.isTimed {st : StepRec} {seconds : Nat} (ends : st.EndsAfter seconds) : st.isTimed = true := by
  rcases ends with kind | ⟨b, kind⟩ <;> simp [StepRec.isTimed, kind]

theorem StepRec.EndsAfter.endMet {st : StepRec} {seconds : Nat} (ends : st.EndsAfter seconds)
    (phase : s.engine.phase = .counting) (duration : s.engine.duration = seconds) : endMet st s = true := by
  rcases ends with kind | ⟨b, kind⟩ <;> simp [Machine.endMet, kind, phase, duration]

theorem endMet_holdAbove {st : StepRec} {threshold seconds : Nat} (kind : st.kind = .holdAbove threshold seconds)
    (full : s.engine.accumulator = seconds) : endMet st s = true := by
  simp [endMet, kind, full]

theorem endMet_mark {st : StepRec} {station : Station} {m : Fin 32} (kind : st.kind = .mark station m)
    (raised : s.board.rows[station].getLsbD m.val = true) : endMet st s = true := by
  simpa only [endMet, kind] using raised

section Completes

variable {d : Delivery} {rest : List Delivery} {st : StepRec}

/-- A set in RUN that meets the end condition makes the step exit COMPLETED (R31, R40). -/
theorem TakesInRun.completes (takes : TakesInRun s d rest st)
    (met : endMet st (engineProgress st d.set (atDelivery d rest s)) = true) :
    exec .engineSampleSet s =
      .next { stepExit .completed st (engineProgress st d.set (atDelivery d rest s)) with chan := s.chan } := by
  have exits : runSet st d.set (atDelivery d rest s) = _ := if_pos met
  rw [takes.sampleSet, exits]

/-- DURATION_END is the set that ends a TIME or TEMP step (log entry 3). -/
theorem TakesInRun.durationEnd (takes : TakesInRun s d rest st) (timed : st.isTimed = true)
    (met : endMet st (engineProgress st d.set (atDelivery d rest s)) = true) :
    exec .durationEnd s = exec .engineSampleSet s := by
  rw [takes.sampleSet]
  exact takes.row (due := durationDue) (by rw [durationDue, timed]; exact met)

/-- HOLD_ABOVE_REACHED is the set that ends a HOLD_ABOVE step (log entry 3). -/
theorem TakesInRun.holdAboveReached (takes : TakesInRun s d rest st) (above : st.isHoldAbove = true)
    (met : endMet st (engineProgress st d.set (atDelivery d rest s)) = true) :
    exec .holdAboveReached s = exec .engineSampleSet s := by
  rw [takes.sampleSet]
  exact takes.row (due := holdAboveDue) (by rw [holdAboveDue, above]; exact met)

end Completes

theorem engineProgress_board (st : StepRec) (set : SampleSet) (s : State) : (engineProgress st set s).board = s.board := by
  simp [engineProgress]

/-- One second more of a phase that counts (R32). -/
theorem engineProgress_counts (st : StepRec) {set : SampleSet} (boundary : set.boundary = true)
    (phase : s.engine.phase = .counting) (below : s.engine.duration < 65535) :
    (engineProgress st set s).engine.phase = .counting ∧
      (engineProgress st set s).engine.duration = s.engine.duration + 1 := by
  rw [engineProgress_engine, runCounts_eq]
  refine ⟨?_, ?_⟩
  · simp [Engine.targetTest_phase, phase]
  · simp [boundary, phase]; omega

/-- The set that reaches the target begins the count (R31, item 3). -/
theorem engineProgress_reaches {st : StepRec} {set : SampleSet} (phase : s.engine.phase = .approaching)
    (below : s.engine.atTemp = false) (reached : targetReached s.engine.approach st.target set.base = true) :
    (engineProgress st set s).engine.phase = .counting ∧
      (engineProgress st set s).engine.duration = s.engine.duration := by
  rw [engineProgress_engine, runCounts_eq]
  refine ⟨?_, ?_⟩
  · simp [Engine.targetTest_phase, phase, below, reached]
  · simp [phase]

/-- The report that ADD is satisfied, taken by the engine (R35). -/
theorem addSatisfied_eq {st : StepRec} (high : s.resetN = true) (step : curStep s = some st)
    (made : .addSatisfied ∈ s.inbox.reports) :
    let u := { s with inbox := { s.inbox with reports := s.inbox.reports.erase .addSatisfied } }
    exec .addSatisfied s = .next (if addApplies u then stepExit .completed st u else u) := by
  intro u
  have step : curStep u = some st := step
  have op : addSatisfiedOp u = if addApplies u then stepExit .completed st u else u := by simp only [addSatisfiedOp, step]
  exact (ran_of_high _ _ high).trans (congrArg _ ((if_pos made).trans op))

/-- Settles O32: a set ends the step when the counters it leaves meet the end condition; the scale's report ends a WEIGH step while it
applies. -/
theorem endConditionsCompleteTheStep : Obligations.EndConditionsCompleteTheStep := by
  intro s st high run step
  constructor
  · intro d rest queued set v u completed
    have takes : TakesInRun s d rest st := ⟨high, queued, step, run⟩
    have timed {seconds : Nat} (ends : st.EndsAfter seconds)
        (counted : u.engine.phase = .counting ∧ u.engine.duration = seconds) :
        exec .durationEnd s = completed ∧ exec .engineSampleSet s = completed := by
      have met : endMet st u = true := ends.endMet counted.1 counted.2
      exact ⟨(takes.durationEnd ends.isTimed met).trans (takes.completes met), takes.completes met⟩
    refine ⟨fun boundary phase below ends => ?_, fun kind phase below zero reached => ?_,
      fun threshold seconds kind boundary phase last count reading above => ?_, fun station m kind raised => ?_⟩
    · exact timed ends (engineProgress_counts (s := v) st boundary phase below)
    · have counted := engineProgress_reaches (s := v) phase below reached
      exact timed (.inl kind) ⟨counted.1, counted.2.trans zero⟩
    · have full : u.engine.accumulator = seconds := by
        rw [engineProgress_engine, (runCounts_accumulates (s := v) kind boundary phase).1, reading, Engine.accumulate_above _ above]
        exact last
      have met : endMet st u = true := endMet_holdAbove kind full
      have holds : st.isHoldAbove = true := by simp [StepRec.isHoldAbove, kind]
      exact ⟨(takes.holdAboveReached holds met).trans (takes.completes met), takes.completes met⟩
    · exact takes.completes (endMet_mark kind (by rw [engineProgress_board]; exact raised))
  · intro made weigh u
    have applies : addApplies u = (decide (s.scale.phase = .add) && !s.scale.suspended && s.scale.reported) := by
      have suits : curIs u StepRec.isWeigh = true := by
        have step : curStep u = some st := step
        simpa only [curIs, step] using weigh
      simp [addApplies, suits, run, u]
    have answers : exec .addSatisfied s = .next (if addApplies u then stepExit .completed st u else u) :=
      addSatisfied_eq high step made
    rw [applies] at answers
    refine ⟨fun phase active reported => ?_, fun lapsed => ?_⟩
    · exact answers.trans (by simp [phase, active, reported])
    · exact answers.trans (by rcases lapsed with phase | suspended | unreported <;> simp [*])

end Sys2Proof.Machine
end

-- ==== A step is entered and left ====
section
/-! SUPPORT. What a setting leaves of the stirrer, what a step entry hands to heater, stirrer, scale and journal (R29, R117), and what
the exit of the last step gives back (R41, R42). -/

namespace Sys2Proof.Machine

variable {s : State}

/-! ## A setting reaches the stirrer (R117) -/

/-- Two stirrer records with the same setting and pattern position. -/
def Stirrer.SameSetting (t t' : Stirrer) : Prop := t'.setting = t.setting ∧ t'.patternPos = t.patternPos

theorem Stirrer.startDrive_sameSetting (t : Stirrer) : t.SameSetting t.startDrive := by
  simp only [Stirrer.startDrive]; split <;> exact ⟨rfl, rfl⟩

theorem Stirrer.sensed_sameSetting (t : Stirrer) (seated : Bool) : t.SameSetting (t.sensed seated) := by
  simp only [Stirrer.sensed]
  split
  · exact Stirrer.startDrive_sameSetting { t with lockTimer := .stopped }
  · exact ⟨rfl, rfl⟩

theorem Stirrer.change_sameSetting (t : Stirrer) : t.SameSetting t.change := by
  simp only [Stirrer.change]
  split
  · exact ⟨rfl, rfl⟩
  split
  · exact t.startDrive_sameSetting
  · exact ⟨rfl, rfl⟩

/-- A state that differs in the stirrer, its setting kept, and in the reports alone. -/
def StirrerActs (s s' : State) : Prop :=
  ∃ t reports, s' = { s with stirrer := t, inbox := { s.inbox with reports := reports } } ∧ s.stirrer.SameSetting t

theorem lockRequest_acts (s : State) : StirrerActs s (lockRequest s) := by
  simp only [lockRequest]
  split
  · split
    · exact ⟨_, _, rfl, Stirrer.sensed_sameSetting { s.stirrer with lockDriven := true, state := .locking, lockTimer := .running } _⟩
    · exact ⟨_, _, rfl, rfl, rfl⟩
  · exact ⟨_, _, rfl, rfl, rfl⟩

theorem actOnSetting_acts (s : State) : StirrerActs s (actOnSetting s) := by
  have stays : StirrerActs s s := ⟨_, _, rfl, rfl, rfl⟩
  simp only [actOnSetting]
  split
  · exact stays
  split
  · exact stays
  split
  · exact stays
  split
  · exact lockRequest_acts s
  · exact ⟨_, _, rfl, s.stirrer.startDrive_sameSetting⟩

/-- The setting handed over is the one the stirrer holds, whatever it does with it (R117, R119, R120). -/
theorem giveSetting_eq (setting : Setting) (pos : Option PatternPos) (s : State) :
    ∃ t reports, t.setting = setting ∧ t.patternPos = pos ∧
      giveSetting setting pos s = { s with stirrer := t, inbox := { s.inbox with reports := reports } } := by
  have moved : StirrerActs { s with stirrer := s.stirrer.take setting pos } (giveSetting setting pos s) := by
    have change : StirrerActs { s with stirrer := s.stirrer.take setting pos }
        { s with stirrer := (s.stirrer.take setting pos).change } := ⟨_, _, rfl, Stirrer.change_sameSetting _⟩
    simp only [giveSetting]
    split
    · exact actOnSetting_acts _
    · exact ⟨_, _, rfl, rfl, rfl⟩
    · exact ⟨_, _, rfl, rfl, rfl⟩
    all_goals exact change
  obtain ⟨t, reports, given, same_setting, same_pos⟩ := moved
  exact ⟨t, reports, same_setting, same_pos, given⟩

/-! ## A step entry (R29, R30, R85) -/

theorem heaterSetpoint_eq (st : StepRec) (s : State) :
    ∃ wants, heaterSetpoint st s = { s with
      heater := (heaterSetpoint st s).heater, inbox := { s.inbox with wants := wants } } := by
  simp only [heaterSetpoint]
  rw [setWant_eq]
  exact ⟨_, rfl⟩

/-- The journal is read by no setpoint. -/
theorem heaterSetpoint_openEntry (st : StepRec) (s : State) :
    (heaterSetpoint st (openEntry s)).heater = (heaterSetpoint st s).heater := by
  simp only [heaterSetpoint, setWant_heater]
  rfl

/-- The records of the units as a step entry leaves them, before its standing conditions are tested (R29). -/
theorem enterStep_eq (st : StepRec) (s : State) :
    ∃ t wants reports, t.setting = st.setting ∧ t.patternPos = entryPosition st.setting ∧
      enterStep st s = { s with
        heater := (heaterSetpoint st s).heater
        stirrer := t
        scale := (scaleEnter st s).scale
        engine := s.engine.enter st s.chan.latest.base
        journal := (openEntry s).journal
        inbox := { s.inbox with wants := wants, reports := reports } } := by
  obtain ⟨wants, heated⟩ := heaterSetpoint_eq st (openEntry s)
  obtain ⟨t, reports, setting, pos, given⟩ :=
    giveSetting_eq st.setting (entryPosition st.setting) (heaterSetpoint st (openEntry s))
  refine ⟨t, wants, reports, setting, pos, ?_⟩
  simp only [enterStep]
  rw [given, heated, heaterSetpoint_openEntry]
  cases kind : st.kind <;> simp only [scaleEnter, kind] <;> rfl

/-- A step none of whose standing conditions holds is entered without a hold (R85). -/
theorem stepEntry_free {st : StepRec} (step : curStep s = some st) (free : standingCauses s st = []) :
    stepEntry s = enterStep st s := by
  have still : standingCauses (enterStep st s) st = [] := by simpa [standingCauses] using free
  simp only [stepEntry, step, still, List.foldl_nil]

theorem scaleEnter_weigh {st : StepRec} {target tolerance : Nat} (kind : st.kind = .weigh target tolerance) (s : State) :
    (scaleEnter st s).scale = s.scale.beginWeigh target tolerance (setsBehind s) := by
  simp only [scaleEnter, kind]

theorem scaleEnter_other {st : StepRec} (other : ∀ a b, st.kind ≠ .weigh a b) (s : State) :
    (scaleEnter st s).scale = s.scale.noPhase := by
  cases kind : st.kind
  case weigh a b => exact absurd kind (other a b)
  all_goals simp only [scaleEnter, kind]

/-- A step entry touches no weighing of the scale (R135). -/
theorem scaleEnter_weighing (st : StepRec) (s : State) :
    (scaleEnter st s).scale.reference = s.scale.reference ∧ (scaleEnter st s).scale.history = s.scale.history ∧
      (scaleEnter st s).scale.steady = s.scale.steady := by
  cases kind : st.kind <;> simp only [scaleEnter, kind] <;> exact ⟨rfl, rfl, rfl⟩

/-- Settles O29: with no standing condition the entry is what the engine hands to each unit. -/
theorem stepEntryStartsTheStepAfresh : Obligations.StepEntryStartsTheStepAfresh := by
  intro s st run step free t
  obtain ⟨stirrer, wants, reports, setting, pos, entered⟩ := enterStep_eq st s
  have entered : t = _ := (stepEntry_free step free).trans entered
  clear_value t
  subst entered
  obtain ⟨reference, history, steady⟩ := scaleEnter_weighing st s
  refine ⟨?engine, rfl, setting, fun interval => pos.trans ?on, fun continuous => pos.trans ?off, fun a b kind => ?weigh,
    fun other => ?other, reference, history, steady, ⟨_, add_getLast _ _, rfl, rfl, rfl, rfl, rfl, rfl, rfl⟩, rfl⟩
  case engine =>
    cases kind : st.kind
    case time fromTemp seconds => cases fromTemp <;> simp only [Engine.enter, kind, EndKind.entryPhase]
    all_goals simp only [Engine.enter, kind, EndKind.entryPhase]
  case on => simp only [entryPosition, interval]
  case off => simp only [entryPosition, continuous]
  case weigh =>
    rw [scaleEnter_weigh kind]
    exact ⟨rfl, rfl, rfl, rfl, rfl, rfl, rfl, rfl, rfl⟩
  case other =>
    rw [scaleEnter_other other]
    exact ⟨rfl, rfl, rfl⟩

/-! ## A step exit (R41, R42) -/

theorem heaterOff_want (regulating : s.heater.regulating = true) : (heaterOff s).heater.want = 0 := by
  simp [heaterOff, regulating]

theorem raiseOf_none {st : StepRec} (silent : st.raise = none) (s : State) : raiseOf st s = s := by
  simp only [raiseOf, silent]

theorem raiseOf_some {st : StepRec} {m : Fin 32} (raises : st.raise = some m) (s : State) :
    raiseOf st s = raiseMark m s := by
  simp only [raiseOf, raises]

/-- A step exit's mark touches the board, the MARK slot and the note on the frame on the line (R157). -/
theorem raiseOf_eq (st : StepRec) (s : State) :
    raiseOf st s = { s with
      board := (raiseOf st s).board, tx := { s.tx with mark := (raiseOf st s).tx.mark }
      line := { s.line with onLine := (raiseOf st s).line.onLine } } := by
  cases raises : st.raise with
  | none => rw [raiseOf_none raises]
  | some m => rw [raiseOf_some raises]; rfl

/-- The step is left: its mark raised, its entry closed, its weigh phase ended (R41). -/
def leaveStep (cause : EndCause) (st : StepRec) (s : State) : State := scaleEnd (closeEntry cause (raiseOf st s))

theorem leaveStep_eq (cause : EndCause) (st : StepRec) (s : State) :
    leaveStep cause st s = { s with
      scale := s.scale.noPhase
      board := (raiseOf st s).board
      journal := ⟨s.journal.entries.map
        (JournalEntry.mapOpen fun e => { e with ending := some (s.engine.clock, cause) }), s.journal.written⟩
      tx := { s.tx with mark := (raiseOf st s).tx.mark }
      line := { s.line with onLine := (raiseOf st s).line.onLine } } := by
  rw [leaveStep, raiseOf_eq]
  rfl

theorem stepExit_next {k : Fin 4} (slot : s.engine.slot = some k) (more : s.engine.index + 1 < s.slots[k].count)
    (cause : EndCause) (st : StepRec) :
    stepExit cause st s =
      stepEntry { leaveStep cause st s with
        engine := { (leaveStep cause st s).engine with index := s.engine.index + 1 } } := by
  have count : stepCount (leaveStep cause st s) = s.slots[k].count := by simp [leaveStep, stepCount, slot]
  have index : (leaveStep cause st s).engine.index = s.engine.index := by simp [leaveStep]
  rw [← count, ← index] at more
  rw [← index]
  exact if_pos more

theorem stepExit_last {k : Fin 4} (slot : s.engine.slot = some k) (last : s.slots[k].count ≤ s.engine.index + 1)
    (cause : EndCause) (st : StepRec) : stepExit cause st s = runEnded (leaveStep cause st s) := by
  have count : stepCount (leaveStep cause st s) = s.slots[k].count := by simp [leaveStep, stepCount, slot]
  have index : (leaveStep cause st s).engine.index = s.engine.index := by simp [leaveStep]
  rw [← count, ← index] at last
  exact if_neg (Nat.not_lt.2 last)

/-- A run that ended, written out as one record (R42). -/
theorem runEnded_eq (s : State) :
    ∃ h t wants, h.regulating = false ∧ (s.heater.regulating = true → h.want = 0) ∧
      t.setting = { s.stirrer.setting with level := 0 } ∧
      runEnded s = { s with
        engine := { s.engine.clearStep with state := .ended, index := stepCount s }
        slots := (returnSlot s).slots
        heater := h
        stirrer := t
        inbox := { s.inbox with wants := wants } } := by
  let u := returnSlot { s with engine := { s.engine.clearStep with state := .ended, index := stepCount s } }
  have heater : u.heater = s.heater := by simp [u]
  obtain ⟨h, wants, off, cooled⟩ := heaterOff_eq u
  obtain ⟨t, setting, stopped⟩ := giveStop_eq (heaterOff u)
  refine ⟨h, t, wants, off, fun regulating => ?_, by simpa [u] using setting, ?_⟩
  · have want : (heaterOff u).heater.want = 0 := heaterOff_want (heater ▸ regulating)
    rwa [cooled] at want
  · have returned : u = { s with
        engine := { s.engine.clearStep with state := .ended, index := stepCount s }, slots := (returnSlot s).slots } := by
      cases slot : s.engine.slot <;> simp [u, returnSlot, slot, setSlotState, Engine.clearStep]
    show giveStop (heaterOff u) = _
    rw [stopped, cooled, returned]

/-- The exit of the last step, written out as one record (R41, R42). -/
theorem stepExit_last_eq {k : Fin 4} (slot : s.engine.slot = some k) (last : s.slots[k].count ≤ s.engine.index + 1)
    (cause : EndCause) (st : StepRec) :
    ∃ h t wants, h.regulating = false ∧ (s.heater.regulating = true → h.want = 0) ∧
      t.setting = { s.stirrer.setting with level := 0 } ∧
      stepExit cause st s = { leaveStep cause st s with
        engine := { s.engine.clearStep with state := .ended, index := s.slots[k].count }
        slots := (returnSlot s).slots
        heater := h
        stirrer := t
        inbox := { s.inbox with wants := wants } } := by
  obtain ⟨h, t, wants, off, want, setting, ended⟩ := runEnded_eq (leaveStep cause st s)
  have count : stepCount (leaveStep cause st s) = s.slots[k].count := by simp [leaveStep, stepCount, slot]
  have returned : (returnSlot (leaveStep cause st s)).slots = (returnSlot s).slots := by
    rw [leaveStep_eq]; simp only [returnSlot, slot, setSlotState]
  rw [count, returned] at ended
  refine ⟨h, t, wants, off, ?_, ?_, (stepExit_last slot last cause st).trans (ended.trans ?_)⟩
  · simpa [leaveStep] using want
  · simpa [leaveStep] using setting
  · rw [leaveStep_eq]

/-- Settles O31: the last step's exit is what leaving it and ending the run give; another step's exit enters the next one. -/
theorem stepExitMovesOn : Obligations.StepExitMovesOn := by
  intro s st cause k slot
  constructor
  · intro last t
    obtain ⟨h, stirrer, wants, off, want, setting, left⟩ := stepExit_last_eq slot last cause st
    rw [leaveStep_eq] at left
    have left : t = _ := left
    clear_value t
    subst left
    obtain ⟨returned, others⟩ := returnSlot_slots slot
    have state := congrArg Slot.state returned
    have count := congrArg Slot.count returned
    have records := congrArg Slot.records returned
    refine ⟨rfl, state, count, records, others, off, want, setting, rfl, ?own, fun m raises => ?raised, rfl,
      fun silent => ?silent, rfl⟩
    case own =>
      cases raises : st.raise with
      | none => rw [raiseOf_none raises]
      | some m => rw [raiseOf_some raises]; rfl
    case raised =>
      rw [raiseOf_some raises]
      exact ⟨rfl, by simp [raiseMark]⟩
    case silent =>
      rw [raiseOf_none silent]
      exact ⟨rfl, rfl⟩
  · intro more
    rw [stepExit_next slot more]
    cases raises : st.raise with
    | none => rw [leaveStep, raiseOf_none raises]
    | some m => rw [leaveStep, raiseOf_some raises]

end Sys2Proof.Machine
end

-- ==== START, PAUSE, ABORT, SKIP and CONFIRM ====
section
/-! SUPPORT. What the engine's commands do to the state in which their frame is noted (R25 to R27, R38, R43, R44, R80). -/

namespace Sys2Proof.Machine

variable {s : State} {src : Station} {dst : Dest}

/-! ## SKIP and CONFIRM (R38, R43) -/

/-- The note of a taken peer frame touches no unit and no event under way. -/
@[simp] theorem noted_units (src : Station) (s : State) :
    (noted src s).heater = s.heater ∧ (noted src s).stirrer = s.stirrer ∧ (noted src s).inbox = s.inbox := by
  simp [noted]

theorem noted_curStep (src : Station) (s : State) : curStep (noted src s) = curStep s := by simp only [curStep, noted_frame]

theorem skipAct_run {st : StepRec} (run : s.engine.state = .run) (step : curStep s = some st) :
    skipAct s = (.done, stepExit .skipped st s) := by
  simp only [skipAct, run, step, if_true]

theorem skipAct_refused (other : s.engine.state ≠ .run) : skipAct s = (.refusedState, s) := by
  simp only [skipAct, other, if_false]

theorem isConfirm_iff (st : StepRec) : st.isConfirm = true ↔ st.kind = .confirm := by
  cases kind : st.kind <;> simp [StepRec.isConfirm, kind]

theorem confirmAct_run {st : StepRec} (run : s.engine.state = .run) (step : curStep s = some st) :
    confirmAct s = if st.kind = .confirm then (.done, stepExit .completed st s) else (.notWaiting, s) := by
  simp only [confirmAct, run, step, if_true, isConfirm_iff]

theorem confirmAct_refused (other : s.engine.state ≠ .run) : confirmAct s = (.refusedState, s) := by
  simp only [confirmAct, other, if_false]

/-- Settles O43: in RUN each of the two exits the current step, where CONFIRM asks for a CONFIRM step; outside RUN both are refused. -/
theorem skipAndConfirmExitTheStep : Obligations.SkipAndConfirmExitTheStep := by
  intro src dst s panel n
  have state : n.engine.state = s.engine.state := by simp [n]
  refine ⟨fun st run step => ?_, fun other => ?_⟩
  · have run : n.engine.state = .run := state.trans run
    have step : curStep n = some st := (noted_curStep src s).trans step
    exact ⟨ran_takeCommand panel _ (skipAct_run run step),
      fun confirm => ran_takeCommand panel _ ((confirmAct_run run step).trans (if_pos confirm)),
      fun other => ran_takeCommand panel _ ((confirmAct_run run step).trans (if_neg other))⟩
  · have other : n.engine.state ≠ .run := state ▸ other
    exact ⟨ran_takeCommand panel _ (skipAct_refused other), ran_takeCommand panel _ (confirmAct_refused other)⟩

/-! ## PAUSE and ABORT (R44, R80, R86, R88) -/

theorem active_iff (e : EngineState) : e.active = true ↔ e = .run ∨ e = .hold := by simp [EngineState.active]

/-- HOLD entered from RUN, written out as one record (R86). -/
theorem enterHold_eq (cause : HoldCause) (s : State) :
    ∃ h t c wants, h.regulating = false ∧ t.setting = { s.stirrer.setting with level := 0 } ∧
      enterHold cause s = { s with
        engine := { s.engine with
          state := .hold, causes := HoldSet.empty.add cause, saved := some (saveContext cause s) }
        heater := h
        stirrer := t
        scale := c
        journal :=
          let noted := s.journal.add (.station s.engine.tag s.engine.clock (.hold cause))
          { noted with
            entries := noted.entries.map (JournalEntry.mapOpen fun e => { e with holds := min 255 (e.holds + 1) }) }
        inbox := { s.inbox with wants := wants } } := by
  let held : State := { s with engine := { s.engine with
    state := .hold, causes := HoldSet.empty.add cause, saved := some (saveContext cause s) } }
  obtain ⟨h, wants, off, cooled⟩ := heaterOff_eq held
  obtain ⟨t, setting, stopped⟩ := giveStop_eq (heaterOff held)
  have suspended (u : State) : scaleSuspend u = { u with scale := (scaleSuspend u).scale } := by
    unfold scaleSuspend; split <;> rfl
  refine ⟨h, t, (scaleSuspend (giveStop (heaterOff held))).scale, wants, off, by simpa [held] using setting, ?_⟩
  show countHold (noteEvent (.hold cause) (scaleSuspend (giveStop (heaterOff held)))) = _
  rw [suspended, stopped, cooled]
  rfl

theorem add_of_has {h : HoldSet} {cause : HoldCause} (present : h.has cause = true) : h.add cause = h := by
  cases h; cases cause <;> simp_all [HoldSet.has, HoldSet.add]

/-- A cause other than an open bowl, added in HOLD (R88). -/
theorem addHold_eq {cause : HoldCause} (seated : cause ≠ .bowl) (s : State) :
    addHold cause s = { s with
      engine := { s.engine with causes := s.engine.causes.add cause }
      journal := if s.engine.causes.has cause = true then s.journal
        else s.journal.add (.station s.engine.tag s.engine.clock (.hold cause)) } := by
  have saved : (s.engine.saved.map fun c => { c with lifted := c.lifted || decide (cause = .bowl) }) = s.engine.saved := by
    simp [seated]
  simp only [addHold, saved]
  split
  · next present => rw [add_of_has present]
  · rfl

/-- A run that an ABORT ends, written out as one record (R44). -/
theorem abortRun_eq (s : State) :
    ∃ h t wants, h.regulating = false ∧ t.setting = { s.stirrer.setting with level := 0 } ∧
      abortRun s = { s with
        engine := { s.engine.clearStep with state := .idle, saved := none, causes := .empty }
        slots := (returnSlot s).slots
        heater := h
        stirrer := t
        scale := s.scale.noPhase
        journal := ⟨s.journal.entries.map
          (JournalEntry.mapOpen fun e => { e with ending := some (s.engine.clock, .aborted) }), s.journal.written⟩
        inbox := { s.inbox with wants := wants } } := by
  let closed := closeEntry .aborted s
  let u := returnSlot { closed with
    engine := { closed.engine.clearStep with state := .idle, saved := none, causes := .empty } }
  obtain ⟨h, wants, off, cooled⟩ := heaterOff_eq u
  obtain ⟨t, setting, stopped⟩ := giveStop_eq (heaterOff u)
  refine ⟨h, t, wants, off, by simpa [u, closed] using setting, ?_⟩
  have returned : u = { closed with
      engine := { closed.engine.clearStep with state := .idle, saved := none, causes := .empty }
      slots := (returnSlot s).slots } := by
    cases slot : s.engine.slot <;> simp [u, closed, closeEntry, mapOpen, returnSlot, slot, setSlotState, Engine.clearStep]
  show scaleEnd (giveStop (heaterOff u)) = _
  rw [stopped, cooled, returned]
  rfl

theorem pauseAct_run (run : s.engine.state = .run) : pauseAct s = (.done, enterHold .pause s) := by
  simp [pauseAct, raiseHold, run, EngineState.active]

theorem pauseAct_hold (hold : s.engine.state = .hold) : pauseAct s = (.done, addHold .pause s) := by
  simp [pauseAct, raiseHold, hold, EngineState.active]

theorem pauseAct_refused (idle : s.engine.state.active = false) : pauseAct s = (.refusedState, s) := by
  simp [pauseAct, idle]

theorem abortAct_active (active : s.engine.state.active = true) : abortAct s = (.done, abortRun s) := by
  simp [abortAct, active]

theorem abortAct_refused (idle : s.engine.state.active = false) : abortAct s = (.refusedState, s) := by
  simp [abortAct, idle]

/-- Settles O41: PAUSE is a hold entered or a cause added; ABORT ends the run and hands its slot back. -/
theorem pauseHoldsAndAbortEndsTheRun : Obligations.PauseHoldsAndAbortEndsTheRun := by
  intro src dst s panel n
  have state : n.engine.state = s.engine.state := by simp [n]
  refine ⟨fun run => ?_, fun hold => ?_, fun active => ?_, fun unrun unheld => ?_⟩
  · obtain ⟨h, t, c, wants, off, setting, held⟩ := enterHold_eq .pause n
    have answers := ran_takeCommand panel _ (pauseAct_run (s := n) (state.trans run))
    rw [held] at answers
    exact ⟨_, answers, by simp [n], rfl, off, by simpa [n] using setting, by simp [n], by simp [n]⟩
  · have answers := ran_takeCommand panel _ (pauseAct_hold (s := n) (state.trans hold))
    rw [addHold_eq (by decide)] at answers
    exact answers.trans (by simp [n, HoldSet.has])
  · obtain ⟨h, t, wants, off, setting, aborted⟩ := abortRun_eq n
    have answers := ran_takeCommand panel _ (abortAct_active (s := n) (by rw [state, active_iff]; exact active))
    rw [aborted] at answers
    refine ⟨_, answers, by simp [n, Engine.clearStep], fun k slot => ?_, off, by simpa [n] using setting, rfl, by simp [n],
      by simp [n]⟩
    obtain ⟨returned, others⟩ := returnSlot_slots (s := n) (by simpa [n] using slot)
    simp only [n, noted_frame] at returned others
    exact ⟨returned, others⟩
  · have idle : n.engine.state.active = false := by
      rw [state, ← Bool.not_eq_true, active_iff]; exact fun active => active.elim unrun unheld
    exact ⟨ran_takeCommand panel _ (pauseAct_refused idle), ran_takeCommand panel _ (abortAct_refused idle)⟩

/-! ## START (R25 to R27) -/

/-- A peer's frame that is handed on finds its source noted (R53, R173). -/
theorem takeFrame_peer (peer : PeerFrame src s) (handle : State → State) : takeFrame src handle s = handle (noted src s) := by
  obtain ⟨-, other, kept⟩ := peer
  have passed : ¬(src = (checkedGood s).own ∧ (checkedGood s).line.participation ≠ .barred) := fun own => other own.1
  rw [takeFrame, atFrameEnd_of_kept _ _ kept, handleFrame]
  exact if_neg passed

/-- A broadcast START of the panel station is acted on and not answered (R27, R182). -/
theorem start_broadcast (peer : PeerFrame src s) (panel : s.handler.panel = some src)
    (pending : s.handler.restartPending = false) (broadcast : dst.val = 31) {args : Option StartArgs} {r : ResultCode}
    {t : State} (acts : startAct args (noted src s) = (r, t)) : exec (.start src dst args) s = .next t := by
  have acted : broadcastActs src dst (noted src s) = true := by simp [broadcastActs, broadcast, panel, pending]
  have taken : takeStart src dst args s = (startAct args (noted src s)).2 := by
    rw [takeStart, takeFrame_peer peer]
    exact if_pos acted
  exact (ran_of_high _ _ peer.1).trans (congrArg _ (taken.trans (congrArg Prod.snd acts)))

/-- A directed START is a COMMAND like the others (R27, R183). -/
theorem start_directed (panel : FromPanel src dst s) {args : Option StartArgs} {r : ResultCode} {t : State}
    (acts : startAct args (noted src s) = (r, t)) : exec (.start src dst args) s = .next (commandReplied src r t) := by
  have ⟨⟨peer, _, address, _⟩, _⟩ := panel
  have narrow : ¬broadcastActs src dst (noted src s) = true := by
    have own : dst.val ≠ 31 := by rw [address]; exact Nat.ne_of_lt (s.own.isLt.trans (by decide))
    simp [broadcastActs, own]
  have taken : takeStart src dst args s = takeCommand src dst (startAct args) s := by
    rw [takeStart, takeCommand, takeRequest, takeFrame_peer peer, takeFrame_peer peer]
    exact if_neg narrow
  rw [← ran_takeCommand panel _ acts, ran_of_high _ _ peer.1, ← taken]
  exact ran_of_high _ _ peer.1

/-- The checks of a START, all in one (R25). -/
theorem startCheck_eq {a : StartArgs} {k : Fin 4} (named : startSlot a.slots s.own = k) :
    startCheck a s =
      if a.mask.getLsbD s.own.val = false ∨ a.tag = 0 then .badField
      else if s.engine.state = .unready ∨ s.engine.state = .fault then .refusedState
      else if s.slots[k].state = .ready ∨ s.slots[k].state = .running then .done
      else .refusedSlot := by
  subst named
  rw [startCheck]
  by_cases unnamed : a.mask.getLsbD s.own.val = false ∨ a.tag = 0
  · rw [if_pos unnamed]
    rcases unnamed with outside | zero
    · exact if_pos (by rw [outside]; rfl)
    · rw [if_pos zero, ite_self]
  · obtain ⟨named, tagged⟩ := not_or.1 unnamed
    rw [if_neg unnamed, if_neg (by simpa using named), if_neg tagged]
    cases s.slots[startSlot a.slots s.own].state <;> rfl

/-- A START that passed, up to the entry of step 0 (R26). -/
theorem startReady_eq (k : Fin 4) (tag : Byte) (mask : StationSet) (s : State) :
    startReady k tag mask s = setMarkSlot none { s with
      engine := { s.engine with
        state := .run, slot := some k, index := 0, tag := tag, mask := mask, clock := 0
        saved := if s.engine.state = .run ∨ s.engine.state = .hold then none else s.engine.saved
        causes := if s.engine.state = .run ∨ s.engine.state = .hold then .empty else s.engine.causes }
      slots := lentSlots s.slots k
      board := Board.reset
      journal := { s.journal with
        entries := s.journal.entries.map fun e =>
          if s.engine.state = .run ∨ s.engine.state = .hold then
            e.mapOpen fun e => { e with ending := some (s.engine.clock, .superseded) }
          else e } } := by
  by_cases active : s.engine.state = .run ∨ s.engine.state = .hold
  · have ended : supersede s = closeEntry .superseded
        { s with engine := { s.engine with saved := none, causes := .empty } } := if_pos ((active_iff _).2 active)
    simp only [startReady, ended, active, if_true]
    rfl
  · have idle : supersede s = s := if_neg ((active_iff _).not.2 active)
    simp only [startReady, idle, active, if_false, List.map_id']
    rfl

theorem startAct_passed {a : StartArgs} (passed : startCheck a s = .done) :
    startAct (some a) s = (.done, stepEntry (startReady (startSlot a.slots s.own) a.tag a.mask s)) := by
  simp only [startAct, passed, if_true, startRun_eq]

theorem startAct_refused {a : StartArgs} {refusal : ResultCode} (refused : startCheck a s = refusal)
    (bad : refusal ≠ .done) : startAct (some a) s = (refusal, s) := by
  simp only [startAct, refused, bad, if_false]

/-- The check at the state in which the START's frame is noted. -/
theorem startCheck_noted (a : StartArgs) (src : Station) (s : State) : startCheck a (noted src s) = startCheck a s := by
  simp only [startCheck, noted_frame, noted_own]

/-- Settles O40: the checks in their order, then the run begun, broadcast or directed. -/
theorem startBeginsTheRun : Obligations.StartBeginsTheRun := by
  intro src dst a s peer panel pending n active k slot passes refusal
  have named : startSlot a.slots s.own = k := Fin.ext slot.symm
  have checked : startCheck a n = _ := (startCheck_noted a src s).trans (startCheck_eq named)
  have answers {r : ResultCode} {t : State} (acts : startAct (some a) n = (r, t)) :
      (dst.val = 31 → exec (.start src dst (some a)) s = .next t) ∧
        (dst.val = s.own.val → s.line.participation = .live →
          exec (.start src dst (some a)) s = .next (commandReplied src r t)) :=
    ⟨fun broadcast => start_broadcast peer panel pending broadcast acts,
      fun own live => start_directed ⟨⟨peer, live, own, pending⟩, panel⟩ acts⟩
  constructor
  · intro fails
    have bad : refusal ≠ .done := by simp only [refusal]; split_ifs <;> decide
    have refused : startCheck a n = refusal := by
      rw [checked]
      simp only [refusal]
      split
      · rfl
      next named =>
      split
      · rfl
      next ready =>
      refine if_neg fun free => fails ?_
      simp only [not_or, Bool.not_eq_false] at named ready
      exact ⟨named.1, named.2, ready.1, ready.2, free⟩
    exact answers (startAct_refused refused bad)
  · intro passed ended u
    obtain ⟨inside, tagged, ready, healthy, free⟩ := passed
    have passed : startCheck a n = .done := by
      rw [checked, if_neg (by simp only [inside]; simpa using tagged), if_neg (not_or.2 ⟨ready, healthy⟩), if_pos free]
    have begun : startAct (some a) n = (.done, stepEntry u) := by
      rw [startAct_passed passed, startReady_eq, noted_own, named]
      simp only [u, n, noted_frame]
      rfl
    exact answers begun

end Sys2Proof.Machine
end

-- ==== The phases of a WEIGH step at a sample set ====
section
/-! SUPPORT. The weight of a set, the work of each phase, its report and the weight test (R132, R135 to R138). -/

namespace Sys2Proof.Machine

variable {s : State}

/-! ## A set with a weight (R132) -/

theorem hasWeight_iff (cpk count : Nat) : hasWeight cpk count = true ↔ cpk ≠ 0 ∧ 1000 ≤ count ∧ count ≤ 65000 := by
  simp [hasWeight, wgtInRange, within]

/-- A set moves the latest values, the history and the steady flag of the scale's record (R132, R133). -/
theorem Scale.weighSet_eq (c : Scale) (set : SampleSet) (zeroCount cpk stirred : Nat) :
    ∃ count gross history steady, c.weighSet set zeroCount cpk stirred =
      { c with latestCount := count, latestGross := gross, history := history, steady := steady } := by
  unfold Scale.weighSet
  split
  · exact ⟨_, _, _, _, rfl⟩
  · exact ⟨c.latestCount, c.latestGross, _, _, rfl⟩

/-- The state in which the scale does the phase's work on the set at the head of its queue. -/
def weighed (rest : List SampleSet) (count : Option Nat) (gross : Option Int) (history : List Int) (steady : Bool)
    (s : State) : State :=
  { s with
    scale := { s.scale with latestCount := count, latestGross := gross, history := history, steady := steady }
    inbox := { s.inbox with scale := rest } }

/-- The scale takes a set: the set weighed, the phase's work, one early set less (R132). -/
theorem scaleSampleSet_eq {set : SampleSet} {rest : List SampleSet} (high : s.resetN = true)
    (queued : s.inbox.scale = set :: rest) :
    ∃ count gross history steady, exec .scaleSampleSet s =
      .next (countEarly (phaseSet set (weighed rest count gross history steady s))) := by
  obtain ⟨count, gross, history, steady, record⟩ :=
    s.scale.weighSet_eq set s.handler.zero s.handler.cpk s.stirrer.stirredLevel
  have taken : takeScaleSet scaleSetOp s = scaleSetOp set { s with inbox := { s.inbox with scale := rest } } := by
    simp only [takeScaleSet, queued]
  refine ⟨count, gross, history, steady, (ran_of_high _ _ high).trans (congrArg _ (taken.trans ?_))⟩
  simp only [scaleSetOp, record]
  rfl

/-! ## The work of the phase (R135 to R137) -/

/-- The open entry takes an added weight and an over-target flag (R161). -/
def Journal.withAdded (j : Journal) (added : Option Int) (overTarget : Option Bool) : Journal :=
  ⟨j.entries.map (JournalEntry.mapOpen fun e => { e with added := added, overTarget := overTarget }), j.written⟩

/-- The added weight reaches the target less the tolerance, not yet reported (R136, item 3). -/
def Scale.satisfies (c : Scale) (w : Int) : Bool := (c.target : Int) - c.tolerance ≤ w && !c.reported

/-- A record with an added weight, written into the journal and tested (R136). -/
theorem satisfiedTest_noteAdded {c : Scale} {w : Int} (added : c.added = some w) (s : State) :
    satisfiedTest (noteAdded { s with scale := c }) = { s with
      scale := { c with reported := c.reported || c.satisfies w }
      journal := s.journal.withAdded c.added c.overTarget
      inbox := { s.inbox with reports := s.inbox.reports ++ if c.satisfies w = true then [.addSatisfied] else [] } } := by
  have tested : satisfiedTest (noteAdded { s with scale := c }) = if c.satisfies w = true then
      report .addSatisfied { noteAdded { s with scale := c } with scale := { c with reported := true } }
      else noteAdded { s with scale := c } := by
    simp only [satisfiedTest, noteAdded_frame, added]; rfl
  rw [tested]
  split
  · next yes => rw [yes, Bool.or_true]; rfl
  · next no => rw [eq_false_of_ne_true no, Bool.or_false, List.append_nil]; rfl

theorem phaseWork_none (phase : s.scale.phase = .none) (count : Nat) : phaseWork count s = s := by
  simp only [phaseWork, phase]

theorem phaseWork_settle (phase : s.scale.phase = .settle) (plain : s.scale.reReference = none) (count : Nat) :
    phaseWork count s = { s with
      scale := { s.scale with reference := count, phase := .add, added := some 0, overTarget := some false }
      journal := s.journal.withAdded (some 0) (some false) } := by
  have work : phaseWork count s = plainReference count s := by simp only [phaseWork, phase, plain]
  exact work

/-- The record that a re-reference gives, before its test (R137). -/
def Scale.reReferenced (c : Scale) (count cpk : Nat) (w : Int) : Scale :=
  { c with reference := referenceFor count w cpk, phase := .add, added := some w, reReference := none }

/-- The record that a steady set in ADD gives, before its test (R136, items 1 and 2). -/
def Scale.addedSet (c : Scale) (count cpk : Nat) : Scale :=
  { c with added := some (grams count c.reference cpk), overTarget := overAfter c (grams count c.reference cpk) }

theorem phaseWork_reReference {w : Int} (phase : s.scale.phase = .settle) (again : s.scale.reReference = some w)
    (count : Nat) : phaseWork count s =
      satisfiedTest (noteAdded { s with scale := s.scale.reReferenced count s.handler.cpk w }) := by
  simp only [phaseWork, phase, again]
  rfl

theorem phaseWork_add (phase : s.scale.phase = .add) (count : Nat) :
    phaseWork count s = satisfiedTest (noteAdded { s with scale := s.scale.addedSet count s.handler.cpk }) := by
  simp only [phaseWork, phase]
  rfl

/-- A tested weight that was not yet reported is reported when it reaches the target less the tolerance (R136, item 3). -/
theorem satisfiedTest_reports {c : Scale} {w : Int} (added : c.added = some w) (unreported : c.reported = false) (s : State) :
    ((satisfiedTest (noteAdded { s with scale := c })).scale.reported = true ↔ (c.target : Int) - c.tolerance ≤ w) ∧
      (satisfiedTest (noteAdded { s with scale := c })).inbox.reports.count .addSatisfied =
        s.inbox.reports.count .addSatisfied +
          if (satisfiedTest (noteAdded { s with scale := c })).scale.reported = true then 1 else 0 := by
  have satisfies : c.satisfies w = decide ((c.target : Int) - c.tolerance ≤ w) := by simp [Scale.satisfies, unreported]
  rw [satisfiedTest_noteAdded added]
  simp only [unreported, satisfies, Bool.false_or, decide_eq_true_eq, List.count_append, true_and]
  split <;> simp

/-- What the work of a phase keeps, whatever the phase: the steady flag, whether a phase stands, the journal's agreement with the
scale, the SCALE cause's reports (R135 to R138). -/
structure PhaseWorked (s t : State) : Prop where
  steady : t.scale.steady = s.scale.steady
  idle : t.scale.phase = .none ↔ s.scale.phase = .none
  journal : s.scale.phase ≠ .none → t.journal = s.journal.withAdded t.scale.added t.scale.overTarget
  overweight : t.inbox.reports.count .overweight = s.inbox.reports.count .overweight
  frame : t = { s with
    scale := t.scale, journal := t.journal, inbox := { s.inbox with reports := t.inbox.reports } }

theorem satisfiedTest_worked {c : Scale} {w : Int} (added : c.added = some w) (steady : c.steady = s.scale.steady)
    (idle : c.phase = .none ↔ s.scale.phase = .none) :
    PhaseWorked s (satisfiedTest (noteAdded { s with scale := c })) := by
  rw [satisfiedTest_noteAdded added]
  refine ⟨steady, idle, fun _ => rfl, ?_, rfl⟩
  show (s.inbox.reports ++ if c.satisfies w = true then [Report.addSatisfied] else []).count Report.overweight = _
  split <;> simp

theorem phaseWork_worked (count : Nat) (s : State) : PhaseWorked s (phaseWork count s) := by
  cases phase : s.scale.phase with
  | none =>
    rw [phaseWork_none phase]
    exact ⟨rfl, Iff.rfl, fun stands => absurd phase stands, rfl, rfl⟩
  | settle =>
    cases again : s.scale.reReference with
    | none =>
      rw [phaseWork_settle phase again]
      exact ⟨rfl, by simp [phase], fun _ => rfl, rfl, rfl⟩
    | some w =>
      rw [phaseWork_reReference phase again]
      exact satisfiedTest_worked rfl rfl (by simp [Scale.reReferenced, phase])
  | add =>
    rw [phaseWork_add phase]
    exact satisfiedTest_worked rfl rfl Iff.rfl

/-- A weight that the work of a phase tests, with the record it is tested in (R136, R137). -/
theorem phaseWork_tests (tests : s.scale.phase = .add ∨ s.scale.phase = .settle ∧ s.scale.reReference ≠ none) (count : Nat) :
    ∃ c w, phaseWork count s = satisfiedTest (noteAdded { s with scale := c }) ∧ c.added = some w ∧
      c.target = s.scale.target ∧ c.tolerance = s.scale.tolerance ∧ c.reported = s.scale.reported := by
  rcases tests with phase | ⟨phase, again⟩
  · exact ⟨_, _, phaseWork_add phase count, rfl, rfl, rfl, rfl⟩
  · obtain ⟨w, again⟩ := Option.ne_none_iff_exists'.1 again
    exact ⟨_, w, phaseWork_reReference phase again count, rfl, rfl, rfl, rfl⟩

theorem phaseWork_reports {count : Nat} {w : Int} (added : (phaseWork count s).scale.added = some w)
    (tests : s.scale.phase = .add ∨ s.scale.phase = .settle ∧ s.scale.reReference ≠ none)
    (unreported : s.scale.reported = false) :
    ((phaseWork count s).scale.reported = true ↔ (s.scale.target : Int) - s.scale.tolerance ≤ w) ∧
      (phaseWork count s).inbox.reports.count .addSatisfied = s.inbox.reports.count .addSatisfied +
        if (phaseWork count s).scale.reported = true then 1 else 0 := by
  obtain ⟨c, net, work, record, target, tolerance, reported⟩ := phaseWork_tests tests count
  have tested := satisfiedTest_reports record (reported.trans unreported) s
  have same : net = w := by
    rw [work, satisfiedTest_noteAdded record] at added
    exact Option.some.inj (record.symm.trans added)
  rw [work, ← target, ← tolerance, ← same]
  exact tested

/-! ## The weight test, last in the operation (R138, log entry 38) -/

theorem phaseSet_weightless {set : SampleSet} (weightless : ¬hasWeight s.handler.cpk set.wgt = true) :
    phaseSet set s = s := if_neg weightless

theorem countEarly_weightTest (gross : Int) (s : State) :
    countEarly (weightTest gross s) = { s with
      scale := { s.scale with early := s.scale.early - 1 }
      inbox := { s.inbox with
        reports := s.inbox.reports ++ if s.scale.phase ≠ .none ∧ 15000 < gross then [.overweight] else [] } } := by
  by_cases heavy : s.scale.phase ≠ .none ∧ 15000 < gross
  · rw [if_pos heavy]
    simp [weightTest, heavy, countEarly, report]
  · rw [if_neg heavy, List.append_nil, weightTest]
    rw [show (decide (s.scale.phase ≠ .none) && decide (15000 < gross)) = false by simpa using heavy]
    rfl

/-- The state after the phase's work, which a set that the phase does not use leaves undone (R29, R137, R140). -/
def phaseDone (count : Nat) (s : State) : State := if s.scale.uses = true then phaseWork count s else s

theorem phaseDone_used (used : s.scale.uses = true) (count : Nat) : phaseDone count s = phaseWork count s := if_pos used

theorem phaseDone_unused (unused : ¬s.scale.uses = true) (count : Nat) : phaseDone count s = s := if_neg unused

theorem phaseDone_keeps (count : Nat) (s : State) :
    ((phaseDone count s).scale.phase = .none ↔ s.scale.phase = .none) ∧
      (phaseDone count s).inbox.reports.count .overweight = s.inbox.reports.count .overweight := by
  by_cases used : s.scale.uses = true
  · rw [phaseDone_used used]
    exact ⟨(phaseWork_worked count s).idle, (phaseWork_worked count s).overweight⟩
  · rw [phaseDone_unused used]
    exact ⟨Iff.rfl, rfl⟩

theorem phaseSet_weight {set : SampleSet} (weight : hasWeight s.handler.cpk set.wgt = true) :
    phaseSet set s = weightTest (grams set.wgt s.handler.zero s.handler.cpk) (phaseDone set.wgt s) := if_pos weight

/-- The reports that a set's operation leaves of the SCALE cause (R138). -/
theorem phaseSet_overweight (set : SampleSet) (s : State) :
    (countEarly (phaseSet set s)).inbox.reports.count .overweight = s.inbox.reports.count .overweight +
      if s.handler.cpk ≠ 0 ∧ 1000 ≤ set.wgt ∧ set.wgt ≤ 65000 ∧ s.scale.phase ≠ .none ∧
        15000 < grams set.wgt s.handler.zero s.handler.cpk then 1 else 0 := by
  have weighs := hasWeight_iff s.handler.cpk set.wgt
  by_cases weight : hasWeight s.handler.cpk set.wgt = true
  · obtain ⟨idle, kept⟩ := phaseDone_keeps set.wgt s
    obtain ⟨calibrated, low, high⟩ := weighs.1 weight
    rw [phaseSet_weight weight, countEarly_weightTest]
    simp only [List.count_append, kept, ne_eq, idle, calibrated, low, high, not_false_iff, true_and]
    split <;> simp
  · rw [phaseSet_weightless weight, if_neg fun ⟨calibrated, low, high, _⟩ => weight (weighs.2 ⟨calibrated, low, high⟩)]
    rfl

/-- A set that the phase does not use is weighed and tested alone (R137, R138, log entry 38). -/
theorem phaseSet_unused {set : SampleSet} (unused : ¬s.scale.uses = true) :
    ∃ reports, (∀ r : Report, r ≠ .overweight → reports.count r = s.inbox.reports.count r) ∧
      countEarly (phaseSet set s) = { s with
        scale := { s.scale with early := s.scale.early - 1 }, inbox := { s.inbox with reports := reports } } := by
  by_cases weight : hasWeight s.handler.cpk set.wgt = true
  · rw [phaseSet_weight weight, phaseDone_unused unused, countEarly_weightTest]
    refine ⟨_, fun r other => ?_, rfl⟩
    rw [List.count_append]
    split
    · rw [List.count_cons_of_ne other.symm]; rfl
    · rfl
  · rw [phaseSet_weightless weight]
    exact ⟨_, fun _ _ => rfl, rfl⟩

/-- Settles O26: the set is weighed, the phase's work done on it when it is used, and its weight tested last. -/
theorem weighPhasesAtASteadySet : Obligations.WeighPhasesAtASteadySet := by
  intro s set rest high queued
  obtain ⟨count, gross, history, steady, taken⟩ := scaleSampleSet_eq high queued
  let v := weighed rest count gross history steady s
  refine ⟨⟨_, taken, phaseSet_overweight set v⟩, fun unready => ?_, fun late active calibrated low high => ?_⟩
  · have unused : ¬v.scale.uses = true := by
      rcases unready with suspended | early
      · simp [Scale.uses, v, weighed, suspended]
      · simp [Scale.uses, v, weighed, Nat.ne_of_gt early]
    obtain ⟨reports, kept, same⟩ := phaseSet_unused (set := set) unused
    rw [same] at taken
    exact ⟨_, taken, rfl, kept, rfl⟩
  · have weight : hasWeight v.handler.cpk set.wgt = true := (hasWeight_iff _ _).2 ⟨calibrated, low, high⟩
    have uses : v.scale.uses = steady := by simp [Scale.uses, v, weighed, late, active]
    rw [phaseSet_weight weight, countEarly_weightTest] at taken
    cases steady with
    | false =>
      rw [phaseDone_unused (by simp [uses])] at taken
      exact ⟨_, taken, fun now => absurd now Bool.false_ne_true, fun _ => ⟨rfl, rfl, rfl, rfl, rfl⟩, rfl⟩
    | true =>
      rw [phaseDone_used uses] at taken
      have worked := phaseWork_worked set.wgt v
      refine ⟨_, taken, fun _ => ⟨fun phase plain => ?plain, fun w phase again => ?again, fun phase => ?add,
        fun phase => ?idle, worked.journal, fun w added tests unreported => ?reports⟩,
        fun unsteady => absurd (unsteady.symm.trans worked.steady) Bool.false_ne_true, ?frame⟩
      case plain =>
        rw [phaseWork_settle (s := v) phase plain]
        exact ⟨rfl, rfl, rfl, rfl⟩
      case again =>
        rw [phaseWork_reReference (s := v) phase again, satisfiedTest_noteAdded rfl]
        exact ⟨rfl, rfl, rfl, rfl, rfl⟩
      case add =>
        rw [phaseWork_add (s := v) phase, satisfiedTest_noteAdded rfl]
        exact ⟨phase, rfl, _, rfl, rfl, rfl⟩
      case idle =>
        rw [phaseWork_none (s := v) phase]
        exact ⟨rfl, rfl⟩
      case reports =>
        obtain ⟨reaches, counted⟩ := phaseWork_reports (s := v) added tests unreported
        refine ⟨reaches, ?_⟩
        rw [List.count_append]
        split <;> exact counted
      case frame =>
        obtain ⟨c, j, reports, work⟩ : ∃ c j reports, phaseWork set.wgt v =
            { v with scale := c, journal := j, inbox := { v.inbox with reports := reports } } := ⟨_, _, _, worked.frame⟩
        rw [work]
        rfl

end Sys2Proof.Machine
end

-- ==== The grants against the budget: what an operation must show ====
section
/-! SUPPORT. What leaves the rows, the straps and the participation state alone, and what a row may take within the
budget (R55). -/

namespace Sys2Proof.Machine

variable {s t u : State}

/-! ## The engine leaves the participation state alone -/

@[simp] theorem raiseMark_participation (m : Fin 32) (s : State) :
    (raiseMark m s).line.participation = s.line.participation := rfl

@[simp] theorem raiseOf_participation (st : StepRec) (s : State) :
    (raiseOf st s).line.participation = s.line.participation := by
  unfold raiseOf; split <;> simp

@[simp] theorem stepExit_participation (cause : EndCause) (st : StepRec) (s : State) :
    (stepExit cause st s).line.participation = s.line.participation := by
  simp only [stepExit]; split <;> simp

@[simp] theorem startRun_participation (k : Fin 4) (tag : Byte) (mask : StationSet) (s : State) :
    (startRun k tag mask s).line.participation = s.line.participation := by
  simp [startRun, clearBoard]

@[simp] theorem timeoutAct_participation (st : StepRec) (s : State) :
    (timeoutAct st s).line.participation = s.line.participation := by
  unfold timeoutAct; split <;> simp

@[simp] theorem runSet_participation (st : StepRec) (set : SampleSet) (s : State) :
    (runSet st set s).line.participation = s.line.participation := by
  simp only [runSet]; (repeat' split) <;> simp

@[simp] theorem engineSetOp_participation (set : SampleSet) (s : State) :
    (engineSetOp set s).line.participation = s.line.participation := by
  unfold engineSetOp; (repeat' split) <;> simp

@[simp] theorem addSatisfiedOp_participation (s : State) :
    (addSatisfiedOp s).line.participation = s.line.participation := by
  unfold addSatisfiedOp; (repeat' split) <;> simp

/-! ## Operations that leave alone what the budget is about -/

/-- The straps, the rows and the participation state are as before. -/
structure Alike (s t : State) : Prop where
  resetN : t.resetN = s.resetN := by simp
  straps : t.straps = s.straps := by simp
  rows : t.share.rows = s.share.rows := by simp
  participation : t.line.participation = s.line.participation := by simp

theorem Alike.refl (s : State) : Alike s s := {}

theorem Alike.trans (first : Alike s t) (second : Alike t u) : Alike s u where
  resetN := second.resetN.trans first.resetN
  straps := second.straps.trans first.straps
  rows := second.rows.trans first.rows
  participation := second.participation.trans first.participation

theorem Alike.ite {c : Prop} [Decidable c] {s a b : State} (act : c → Alike s a) (idle : ¬c → Alike s b) :
    Alike s (if c then a else b) := by
  split
  · exact act ‹_›
  · exact idle ‹_›

section Taking

variable {op : SampleSet → State → State} (alike : ∀ set u, Alike u (op set u))
include alike

theorem takeHeaterSet_alike (s : State) : Alike s (takeHeaterSet op s) := by
  unfold takeHeaterSet
  split
  · exact .refl s
  · exact .trans (t := { s with inbox := _ }) {} (alike _ _)

theorem takeScaleSet_alike (s : State) : Alike s (takeScaleSet op s) := by
  unfold takeScaleSet
  split
  · exact .refl s
  · exact .trans (t := { s with inbox := _ }) {} (alike _ _)

theorem seeing_alike (seen : Channels) (set : SampleSet) (s : State) : Alike s (seeing seen (op set) s) := by
  rw [seeing_eq]
  exact .trans (t := { s with chan := seen }) {} ((alike set _).trans {})

theorem takeStirrerSet_alike (s : State) : Alike s (takeStirrerSet op s) := by
  unfold takeStirrerSet
  split
  · exact .refl s
  · exact .trans (t := { s with inbox := _ }) {} (seeing_alike alike _ _ _)

theorem takeEngineSet_alike (s : State) : Alike s (takeEngineSet op s) := by
  unfold takeEngineSet
  split
  · exact .refl s
  · exact .trans (t := { s with inbox := _ }) {} (seeing_alike alike _ _ _)

end Taking

theorem takeReport_alike (r : Report) {op : State → State} (alike : ∀ u, Alike u (op u)) (s : State) :
    Alike s (takeReport r op s) :=
  .ite (fun _ => .trans (t := { s with inbox := _ }) {} (alike _)) fun _ => .refl s

theorem raiseWhen_alike (cause : HoldCause) (suits : State → Bool) (s : State) : Alike s (raiseWhen cause suits s) :=
  .ite (fun _ => {}) fun _ => .refl s

theorem stirrerCase_alike (due : Stirrer → SampleSet → Bool) (s : State) : Alike s (stirrerCase due s) := by
  unfold stirrerCase
  split
  · exact .refl s
  · exact .ite (fun _ => takeStirrerSet_alike (fun _ _ => {}) s) fun _ => .refl s

theorem engineCase_alike (due : StepRec → SampleSet → State → Bool) (s : State) : Alike s (engineCase due s) := by
  unfold engineCase
  split
  · exact .ite (fun _ => takeEngineSet_alike (fun _ _ => {}) s) fun _ => .refl s
  · exact .refl s

theorem noteEvent_alike (e : StationEvent) (s : State) : Alike s (noteEvent e s) := {}

theorem refreshUsable_alike (s : State) : Alike s (refreshUsable s) := {}

theorem syncEvict_alike (s : State) : Alike s (syncEvict s) := {}

theorem review_alike (s : State) : Alike s (review s) where
  rows := by simp [review]
  participation := by simp [review]

theorem shareLiveEntry_alike (s : State) : Alike s (shareLiveEntry s) := by
  simp only [shareLiveEntry]
  exact .trans (t := review s) (review_alike s) {}

/-- The pending evict mask and its slot are no grants. -/
theorem setPendingEvict_alike (mask : StationSet) (s : State) : Alike s (setPendingEvict mask s) where
  rows := by simp [setPendingEvict_share]

theorem offerOp_alike (rival : Option Byte) (s : State) : Alike s (offerOp rival s) where
  participation := by
    simp only [offerOp, offerNext]
    (repeat' split) <;> simp [forgetAbandoned]

theorem whileReceiving_alike (receiving : Bool) (op : State → State) (s : State) :
    Alike (op s) (whileReceiving receiving op s) := by
  obtain ⟨abandoned, eq⟩ := whileReceiving_eq receiving op s
  rw [eq]
  exact {}

/-! ## Keeping the budget -/

/-- With the grants within the budget before, they are after (R55). -/
def BudgetKept (s t : State) : Prop := WithinBudget s → WithinBudget t

theorem BudgetKept.refl (s : State) : BudgetKept s s := id

theorem BudgetKept.trans (first : BudgetKept s t) (second : BudgetKept t u) : BudgetKept s u := second ∘ first

theorem BudgetKept.ite {c : Prop} [Decidable c] {s a b : State} (act : c → BudgetKept s a)
    (idle : ¬c → BudgetKept s b) : BudgetKept s (if c then a else b) := by
  split
  · exact act ‹_›
  · exact idle ‹_›

theorem Alike.budgetKept (alike : Alike s t) : BudgetKept s t := by
  intro within
  simpa only [WithinBudget, State.budget, alike.resetN, alike.straps, alike.rows, alike.participation] using within

/-- Outside LIVE the budget bounds nothing. -/
theorem BudgetKept.of_away (away : t.line.participation ≠ .live) : BudgetKept s t := fun _ _ live => absurd live away

/-- A table whose grants sum to no more than before keeps the budget. -/
theorem BudgetKept.of_sum (resetN : t.resetN = s.resetN := by simp) (straps : t.straps = s.straps := by simp)
    (participation : t.line.participation = s.line.participation := by simp)
    (sum : s.line.participation = .live → grantSum s.share.rows ≤ s.budget → grantSum t.share.rows ≤ s.budget) :
    BudgetKept s t := by
  intro within high live
  rw [budget_of_straps straps]
  exact sum (participation ▸ live) (within (resetN ▸ high) (participation ▸ live))

/-- In LIVE a row may take a grant for which the others leave room. -/
theorem setRow_budgetKept (i : Station) (r : Row) (s : State)
    (room : s.line.participation = .live → grantSum s.share.rows ≤ s.budget →
      otherGrants s.share.rows i + r.grant ≤ s.budget) : BudgetKept s (setRow i r s) :=
  .of_sum (sum := fun live within => by simpa [grantSum_set] using room live within)

/-- A row may take a grant no higher than its own. -/
theorem setRow_budgetKept_of_le (i : Station) (r : Row) (s : State) (lower : r.grant ≤ s.share.rows[i].grant) :
    BudgetKept s (setRow i r s) :=
  setRow_budgetKept i r s fun _ within => by
    rw [grantSum_split _ i] at within
    omega

/-- A grant that follows a CLAIM keeps within what the others leave (R54). -/
theorem others_add_grantAfterClaim_le {budget others requested grant held : Nat} (within : others + held ≤ budget)
    (created : grant ≤ held) : others + grantAfterClaim budget others requested grant ≤ budget := by
  have bound := grantAfterClaim_le budget others requested grant
  omega

theorem orCreated_grant_le (r : Row) : r.orCreated.grant ≤ r.grant := by
  unfold Row.orCreated
  split
  · exact Nat.zero_le _
  · exact Nat.le_refl _

theorem grantSum_le {rows rows' : Vector Row 16} (each : ∀ i : Station, rows'[i].grant ≤ rows[i].grant) :
    grantSum rows' ≤ grantSum rows := List.sum_le_sum fun i _ => each i

end Sys2Proof.Machine
end

-- ==== The share table and the line keep the grants within the budget ====
section
/-! SUPPORT. Rows, changes of participation, own frames and taken frames: a grant rises only as far as the other rows
leave room, and LIVE is entered with a ready table. -/

namespace Sys2Proof.Machine

variable {s t u : State}

/-! ## The share unit (R53 to R62) -/

theorem heardFrom_budgetKept (src : Station) (s : State) : BudgetKept s (heardFrom src s) :=
  .ite (fun _ => .trans (setRow_budgetKept_of_le src _ s (by exact Nat.le_refl _))
    (setPendingEvict_alike _ _).budgetKept) fun _ => .refl s

theorem claimOp_budgetKept (src : Station) (requested want : Byte) (s : State) :
    BudgetKept s (claimOp src requested want s) := by
  unfold claimOp
  split
  case h_1 =>
    refine setRow_budgetKept src _ s fun _ within => ?_
    rw [grantSum_split _ src] at within
    exact others_add_grantAfterClaim_le within (orCreated_grant_le _)
  case h_2 listen => exact .of_away (by simp [listen])
  all_goals exact .refl s

theorem setOwnGrant_budgetKept (grant : Nat) (s : State)
    (room : s.line.participation = .live → grantSum s.share.rows ≤ s.budget →
      otherGrants s.share.rows s.own + grant ≤ s.budget) : BudgetKept s (setOwnGrant grant s) :=
  setRow_budgetKept s.own _ s room

theorem ownClaimTaken_budgetKept (c : ClaimFrame) (s : State) : BudgetKept s (ownClaimTaken c s) := by
  unfold ownClaimTaken
  refine .trans (setOwnGrant_budgetKept _ s fun _ within => ?_) (refreshUsable_alike _).budgetKept
  rw [grantSum_split _ s.own] at within
  exact others_add_grantAfterClaim_le within (Nat.le_refl _)

theorem withoutRows_budgetKept (mask pending : StationSet) (s : State) : BudgetKept s (withoutRows mask pending s) := by
  refine .of_sum (sum := fun _ within => (grantSum_le fun i => ?_).trans within)
  rw [withoutRows_row]
  split
  · exact Nat.zero_le _
  · exact Nat.le_refl _

theorem ownEviction_budgetKept (src : Station) (s : State) : BudgetKept s (ownEviction src s) := by
  unfold ownEviction
  exact .trans (t := setOwnGrant 0 s) (setRow_budgetKept_of_le _ _ _ (by exact Nat.zero_le _)) (Alike.budgetKept {})

/-- An EVICT takes rows away alone, and the station's own eviction its own grant (R57, R58). -/
theorem evictLive_budgetKept (src : Station) (mask : StationSet) (s : State) : BudgetKept s (evictLive src mask s) := by
  have fewer : BudgetKept s (syncEvict (withoutRows mask (s.share.pendingEvict &&& ~~~mask) s)) :=
    (withoutRows_budgetKept _ _ s).trans (syncEvict_alike _).budgetKept
  rw [evictLive_eq]
  exact .ite (fun _ => fewer.trans (ownEviction_budgetKept src _)) fun _ => fewer

theorem evictOp_budgetKept (src : Station) (mask : StationSet) (s : State) : BudgetKept s (evictOp src mask s) := by
  unfold evictOp
  split
  case h_1 => exact evictLive_budgetKept src mask s
  case h_2 listen => exact .of_away (by simp [listen])
  all_goals exact .refl s

theorem budgetCheck_alike (src : Station) (codes : Byte) (s : State) : Alike s (budgetCheck src codes s) :=
  .ite (fun _ => {}) fun _ => .refl s

/-- In LIVE a PRESENCE raises no grant (R59). -/
theorem presenceLive_budgetKept (src : Station) (grant want : Byte) (s : State) :
    BudgetKept s (presenceLive src grant want s) := by
  have created := orCreated_grant_le s.share.rows[src]
  refine .ite (fun _ => ?_) fun lower => setRow_budgetKept_of_le src _ s (by simp only; omega)
  exact .trans (setRow_budgetKept_of_le src _ s (by exact created))
    ((noteEvent_alike _ _).trans (setPendingEvict_alike _ _)).budgetKept

theorem presenceOp_budgetKept (src : Station) (codes grant want : Byte) (s : State) :
    BudgetKept s (presenceOp src codes grant want s) := by
  unfold presenceOp
  split
  case h_1 => exact (presenceLive_budgetKept src grant want s).trans (budgetCheck_alike _ _ _).budgetKept
  case h_2 listen =>
    exact .trans (.of_away (by simp [presenceListen, listen])) (budgetCheck_alike _ _ _).budgetKept
  all_goals exact .refl s

theorem wantChangeOp_budgetKept (s : State) : BudgetKept s (wantChangeOp s) := by
  unfold wantChangeOp
  split
  · exact .refl s
  · next want rest _ =>
    have told : BudgetKept s (setRow s.own { s.ownRow with want := want }
        { s with inbox := { s.inbox with wants := rest } }) :=
      .trans (t := { s with inbox := _ }) (Alike.budgetKept {}) (setRow_budgetKept_of_le _ _ _ (Nat.le_refl _))
    exact .ite (fun _ => told.trans (review_alike _).budgetKept) fun _ => told

theorem silenceOp_budgetKept (peer : Station) (s : State) : BudgetKept s (silenceOp peer s) := by
  refine .ite (fun _ => ?_) fun _ => .refl s
  have expired (r : Row) (grant : r.grant = s.share.rows[peer].grant) : BudgetKept s (setRow peer r s) :=
    setRow_budgetKept_of_le peer r s grant.le
  split
  case h_1 => exact (expired _ (by rfl)).trans (setPendingEvict_alike _ _).budgetKept
  case h_2 => exact expired _ (by rfl)
  all_goals exact .refl s

/-! ## Participation and own frames (R171, R176 to R178, R186) -/

/-- LIVE is entered with a table that is ready, its grants within the budget (R75). -/
theorem enterLive_budgetKept (ready : s.ready = true) : BudgetKept s (enterLive s) := by
  refine .trans (t := { s with line := _, tx := _ }) (fun _ _ _ => ?_)
    ((noteEvent_alike .joined _).trans (shareLiveEntry_alike _)).budgetKept
  simp only [State.ready, tableReady, Bool.and_eq_true, decide_eq_true_eq] at ready
  exact ready.2

theorem windowOp_budgetKept (s : State) : BudgetKept s (windowOp s) :=
  .ite (fun _ => .ite enterLive_budgetKept fun _ => Alike.budgetKept {}) fun _ => .refl s

theorem tableReadyOp_budgetKept (s : State) : BudgetKept s (tableReadyOp s) :=
  .ite (fun due => enterLive_budgetKept due.2.2) fun _ => .refl s

theorem restart_away (s : State) : (restart s).line.participation ≠ .live := by
  rw [(restart_line s).1]
  exact (restarted_line s.line).1

theorem restartAfter_budgetKept (replied : Bool) (s : State) : BudgetKept s (restartAfter replied s) :=
  .ite (fun _ => .of_away (restart_away s)) fun _ => .refl s

theorem startWindow_budgetKept (s : State) (away : s.line.participation ≠ .live) : BudgetKept s (startWindow s) :=
  .of_away (by simpa [startWindow, clearTable] using away)

theorem enterListen_budgetKept (s : State) : BudgetKept s (enterListen s) :=
  .of_away (by simp [enterListen, startWindow, clearTable])

theorem leaveToListen_budgetKept (reason : LeftReason) (s : State) : BudgetKept s (leaveToListen reason s) :=
  .trans (.of_away (by simp [enterListen, startWindow, clearTable])) (restartAfter_budgetKept _ (enterListen _))

theorem enterLineFault_budgetKept (s : State) : BudgetKept s (enterLineFault s) :=
  .trans (.of_away (by simp)) (restartAfter_budgetKept _ { leaveLive .lineFault s with line := _ })

theorem enterBarred_budgetKept (s : State) : BudgetKept s (enterBarred s) :=
  .trans (.of_away (by simp)) (restartAfter_budgetKept _ (report .barred (setMarkSlot none _)))

theorem badLive_budgetKept (verdict : BadVerdict) (s : State) : BudgetKept s (badLive verdict s) :=
  .ite (fun _ => enterLineFault_budgetKept s) fun _ =>
    .ite (fun _ => leaveToListen_budgetKept _ s) fun _ => Alike.budgetKept {}

theorem foundBad_budgetKept (verdict : BadVerdict) (s : State) : BudgetKept s (foundBad verdict s) := by
  have driven : BudgetKept s
      { s with line := { s.line with verdict := badDriven s.line.participation verdict } } := Alike.budgetKept {}
  simp only [foundBad]
  split
  case h_1 => exact driven.trans (badLive_budgetKept verdict _)
  case h_2 listen =>
    exact .ite (fun _ => driven.trans (startWindow_budgetKept _ (by simp [listen]))) fun _ => driven
  all_goals exact driven

theorem atFrameEnd_budgetKept (op : State → State) (s : State) (kept : BudgetKept s (op s)) :
    BudgetKept s (atFrameEnd op s) :=
  .ite (fun _ => Alike.budgetKept {}) fun _ => kept

theorem checkedGood_alike (s : State) : Alike s (checkedGood s) := by
  unfold checkedGood; exact {}

theorem takeFrame_budgetKept (src : Station) {handle : State → State} (kept : ∀ u, BudgetKept u (handle u))
    (s : State) : BudgetKept s (takeFrame src handle s) :=
  atFrameEnd_budgetKept _ s <| (checkedGood_alike s).budgetKept.trans <|
    .ite (fun _ => enterBarred_budgetKept _) fun _ => (heardFrom_budgetKept src _).trans (kept _)

theorem takeShared_budgetKept (src : Station) (dst : Dest) {handle : State → State}
    (kept : ∀ u, BudgetKept u (handle u)) (s : State) : BudgetKept s (takeShared src dst handle s) :=
  takeFrame_budgetKept src (fun u => .ite (fun _ => kept u) fun _ => .refl u) s

theorem dropFrame_budgetKept (f : LineFrame) (s : State) : BudgetKept s (dropFrame f s) := by
  have off : BudgetKept s { s with line := { s.line with onLine := none }, tx := slotsAfter f false s } :=
    Alike.budgetKept {}
  refine off.trans ?_
  rw [dropFrame_eq]
  unfold ownerDropped
  split
  case h_1 => exact Alike.budgetKept {}
  case h_2 => exact Alike.budgetKept {}
  case h_4 => exact restartAfter_budgetKept _ _
  all_goals exact .refl _

theorem takeOwnFrame_budgetKept (f : LineFrame) (s : State) : BudgetKept s (takeOwnFrame f s) := by
  have off : BudgetKept s { s with
      line := { s.line with onLine := none, ownSilence := .running, spoil := 0 }, tx := slotsAfter f true s } :=
    Alike.budgetKept {}
  refine off.trans ?_
  rw [takeOwnFrame_eq]
  unfold ownerTaken
  split
  case h_1 => exact evictLive_budgetKept _ _ _
  case h_2 => exact ownClaimTaken_budgetKept _ _
  case h_3 => exact .refl _
  case h_4 => exact restartAfter_budgetKept _ _
  case h_5 => exact Alike.budgetKept {}

theorem endOffer_budgetKept (taken : Bool) (s : State) : BudgetKept s (endOffer taken s) := by
  unfold endOffer
  split
  · exact Alike.budgetKept {}
  · exact .ite (fun _ => takeOwnFrame_budgetKept _ s) fun _ => dropFrame_budgetKept _ s

theorem ownSilenceOp_budgetKept (receiving : Bool) (s : State) : BudgetKept s (ownSilenceOp receiving s) :=
  .ite (fun _ => (leaveToListen_budgetKept _ s).trans (whileReceiving_alike _ _ s).budgetKept) fun _ => .refl s

end Sys2Proof.Machine
end

-- ==== Every step keeps the grants within the budget ====
section
/-! SUPPORT. The requests, then every command, each by the lemma of its operation; O58. -/

namespace Sys2Proof.Machine

variable {s t u : State}

/-! ## Requests (R181 to R186) -/

theorem takeRequest_budgetKept (src : Station) (dst : Dest) {handle : State → State} (alike : ∀ u, Alike u (handle u))
    (s : State) : BudgetKept s (takeRequest src dst handle s) :=
  takeFrame_budgetKept src (fun u => (Alike.ite (fun _ => alike u) fun _ => .refl u).budgetKept) s

theorem answer_alike (src : Station) (kind : Nat) (r : ResultCode) (detail : Byte) (data : List Byte) (s : State) :
    Alike s (answer src kind r detail data s) where
  participation := by simp [answer]

theorem handleCommand_alike (src : Station) {act : State → ResultCode × State} (alike : ∀ u, Alike u (act u).2)
    (s : State) : Alike s (handleCommand src act s) := by
  unfold handleCommand
  split
  · exact answer_alike _ _ _ _ _ _
  · exact (alike s).trans (answer_alike _ _ _ _ _ _)

theorem takeCommand_budgetKept (src : Station) (dst : Dest) {act : State → ResultCode × State}
    (alike : ∀ u, Alike u (act u).2) (s : State) : BudgetKept s (takeCommand src dst act s) :=
  takeRequest_budgetKept src dst (handleCommand_alike src alike) s

theorem startAct_alike (args : Option StartArgs) (s : State) : Alike s (startAct args s).2 := by
  unfold startAct; (repeat' split) <;> exact {}

theorem takeStart_budgetKept (src : Station) (dst : Dest) (args : Option StartArgs) (s : State) :
    BudgetKept s (takeStart src dst args s) :=
  takeFrame_budgetKept src (fun u => (Alike.ite (fun _ => startAct_alike args u) fun _ =>
    .ite (fun _ => handleCommand_alike src (startAct_alike args) u) fun _ => .refl u).budgetKept) s

theorem pauseAct_alike (s : State) : Alike s (pauseAct s).2 := by
  unfold pauseAct; split <;> exact {}

theorem resumeAct_alike (s : State) : Alike s (resumeAct s).2 := by
  unfold resumeAct; (repeat' split) <;> exact {}

theorem abortAct_alike (s : State) : Alike s (abortAct s).2 := by
  unfold abortAct; split <;> exact {}

theorem skipAct_alike (s : State) : Alike s (skipAct s).2 := by
  unfold skipAct; (repeat' split) <;> exact {}

theorem confirmAct_alike (s : State) : Alike s (confirmAct s).2 := by
  unfold confirmAct; (repeat' split) <;> exact {}

theorem clearAct_alike (s : State) : Alike s (clearAct s).2 := by
  unfold clearAct; (repeat' split) <;> exact {}

theorem tareAct_alike (s : State) : Alike s (tareAct s).2 := by
  unfold tareAct; (repeat' split) <;> exact {}

theorem setSlot_alike (k : Fin 4) (slot : Slot) (s : State) : Alike s (setSlot k slot s) := by
  unfold setSlot; exact {}

theorem atSlot_alike (b : Byte) {act : Fin 4 → Slot → ResultCode × State} (s : State)
    (alike : ∀ k slot, Alike s (act k slot).2) : Alike s (atSlot b s act).2 := by
  unfold atSlot
  split
  · exact .refl s
  · split
    · exact .refl s
    · exact alike _ _

theorem openSlotAct_alike (args : Option (Byte × Byte)) (s : State) : Alike s (openSlotAct args s).2 := by
  unfold openSlotAct
  split
  · exact .refl s
  · refine atSlot_alike _ s fun k slot => ?_
    split
    · exact setSlot_alike _ _ s
    · exact .refl s

theorem closeSlotAct_alike (args : Option (Byte × Word16)) (s : State) : Alike s (closeSlotAct args s).2 := by
  unfold closeSlotAct
  split
  · exact .refl s
  · refine atSlot_alike _ s fun k slot => ?_
    split
    · exact setSlot_alike _ _ s
    · exact .refl s

theorem handleLoad_alike (src : Station) (slot index : Byte) (record : StepBytes) (s : State) :
    Alike s (handleLoad src slot index record s) := by
  unfold handleLoad
  split
  case h_3 =>
    exact .trans (.ite (fun _ => setSlot_alike _ _ s) fun _ => .refl s) (answer_alike _ _ _ _ _ _)
  all_goals exact answer_alike _ _ _ _ _ s

theorem handleSetup_alike (src : Station) (zero cpk : Word16) (probe : Byte) (s : State) :
    Alike s (handleSetup src zero cpk probe s) := by
  unfold handleSetup
  split
  case h_3 =>
    have taken : Alike s (setupTaken src zero cpk probe s) := by unfold setupTaken; exact {}
    exact taken.trans (answer_alike _ _ _ _ _ _)
  all_goals exact answer_alike _ _ _ _ _ s

theorem takeQuery_budgetKept (src : Station) (dst : Dest) (item : State → Option (Byte × List Byte)) (s : State) :
    BudgetKept s (takeQuery src dst item s) :=
  takeRequest_budgetKept src dst (fun u => .ite (fun _ => answer_alike _ _ _ _ _ u) fun _ => by
    split <;> exact answer_alike _ _ _ _ _ u) s

/-! ## Every command -/

/-- A command answers a state that keeps the budget. -/
def AnswerBudgetKept (s : State) (r : Result) : Prop := ∀ t, r = .next t → BudgetKept s t

theorem ran_budgetKept {op : State → State} {s : State} (kept : BudgetKept s (op s)) :
    AnswerBudgetKept s (ran op s) := by
  rintro t ⟨⟩
  exact .ite (fun _ => kept) fun _ => .refl s

theorem ran_alike {op : State → State} {s : State} (alike : Alike s (op s)) : AnswerBudgetKept s (ran op s) :=
  ran_budgetKept alike.budgetKept

theorem execEconomy_budgetKept (s : State) : AnswerBudgetKept s (execEconomy s) := by
  refine ran_alike ?_
  split
  · exact .refl s
  · exact .ite (fun _ => takeHeaterSet_alike (fun _ _ => {}) s) fun _ => .refl s

/-- After a release of RESET_N the station listens or is BARRED (R166). -/
theorem resetOp_budgetKept (straps : Straps) (pins : PinLevels) (s : State) : BudgetKept s (resetOp straps pins s) :=
  .of_away (afterReset_fresh straps pins (parityGood straps)).away

theorem resetAssertedOp_budgetKept (straps : Straps) (s : State) : BudgetKept s (resetAssertedOp straps s) :=
  fun _ high => by simp [resetAssertedOp] at high

theorem exec_budgetKept (c : Instr) (s : State) : AnswerBudgetKept s (exec c s) := by
  cases c with
  | reset straps pins => rintro t ⟨⟩; exact resetOp_budgetKept straps pins s
  | resetAsserted straps => rintro t ⟨⟩; exact resetAssertedOp_budgetKept straps s
  -- channels
  | gateEnd lid => exact ran_alike {}
  | secondBoundary lid | debouncedStateChange lid | rangeConditionChange lid =>
    exact ran_alike (.ite (fun _ => {}) fun _ => .refl s)
  | filteredLevelChange channel level => exact ran_alike {}
  -- sample sets
  | heaterSampleSet => exact ran_alike (takeHeaterSet_alike (fun _ _ => {}) s)
  | economy => exact execEconomy_budgetKept s
  | stirrerSampleSet => exact ran_alike (takeStirrerSet_alike (fun _ _ => {}) s)
  | stall | stoppingEnd | lockRelease | intervalPhaseEnd => exact ran_alike (stirrerCase_alike _ s)
  | scaleSampleSet => exact ran_alike (takeScaleSet_alike (fun _ _ => {}) s)
  | engineSampleSet => exact ran_alike (takeEngineSet_alike (fun _ _ => {}) s)
  | durationEnd | holdAboveReached | dipReset | timeout => exact ran_alike (engineCase_alike _ s)
  -- heater and stirrer
  | burstSlotEnd | usableUnits | rawBowlOpenHeater | rawBowlOpenStirrer | rawBowlSeated | lockSensed | lockDropped
  | lockTimerExpiry | spinupTimerExpiry => exact ran_alike {}
  -- reports to the engine
  | bowlReport | lidReport | stallReport | sensor | overtemp | lidSense | budgetMismatch | barred | addSatisfied =>
    exact ran_alike (takeReport_alike _ (fun _ => {}) s)
  | probeReport | scaleReport | overweight | lostPower =>
    exact ran_alike (takeReport_alike _ (raiseWhen_alike _ _) s)
  -- share unit
  | wantChange => exact ran_budgetKept (wantChangeOp_budgetKept s)
  | claimReviewTimer => exact ran_alike (.ite (fun _ => review_alike s) fun _ => .refl s)
  | silenceTimer peer => exact ran_budgetKept (silenceOp_budgetKept peer s)
  -- line controller
  | tableReady => exact ran_budgetKept (tableReadyOp_budgetKept s)
  | listenWindow => exact ran_budgetKept (windowOp_budgetKept s)
  | offer rival => exact ran_alike (offerOp_alike rival s)
  | echoFault => exact ran_budgetKept ((endOffer_budgetKept false s).trans (whileReceiving_alike _ _ s).budgetKept)
  | ownFrameTaken | ownFrameDropped => exact ran_budgetKept (endOffer_budgetKept _ s)
  | frameFoundBad verdict => exact ran_budgetKept (atFrameEnd_budgetKept _ s (foundBad_budgetKept verdict s))
  | lineFault verdict =>
    exact ran_budgetKept (.ite (fun _ => atFrameEnd_budgetKept _ s (foundBad_budgetKept verdict s)) fun _ => .refl s)
  | frameSpoiled => exact ran_budgetKept (atFrameEnd_budgetKept _ s (checkedGood_alike s).budgetKept)
  | ownSilence receiving => exact ran_budgetKept (ownSilenceOp_budgetKept receiving s)
  | presenceTimer => exact ran_alike (.ite (fun _ => {}) fun _ => .refl s)
  | quietTimer => exact ran_budgetKept (.ite (fun _ => enterListen_budgetKept s) fun _ => .refl s)
  -- frames for the share unit and the mark board
  | claim src dst requested want =>
    exact ran_budgetKept (takeShared_budgetKept src dst (claimOp_budgetKept src requested want) s)
  | evict src dst mask => exact ran_budgetKept (takeShared_budgetKept src dst (evictOp_budgetKept src mask) s)
  | presence src dst states codes grant want marks =>
    exact ran_budgetKept (takeShared_budgetKept src dst (fun u =>
      (presenceOp_budgetKept src codes grant want u).trans (Alike.budgetKept {})) s)
  | mark src dst tag marks => exact ran_budgetKept (takeShared_budgetKept src dst (fun _ => Alike.budgetKept {}) s)
  | presenceMarks => exact ran_alike {}
  | otherKindTaken src dst kind =>
    exact ran_budgetKept (.ite (fun _ => takeFrame_budgetKept src .refl s) fun _ => .refl s)
  -- requests
  | setup src dst zero cpk probe =>
    exact ran_budgetKept (takeRequest_budgetKept src dst (handleSetup_alike src zero cpk probe) s)
  | stepLoad src dst slot index record =>
    exact ran_budgetKept (takeRequest_budgetKept src dst (handleLoad_alike src slot index record) s)
  | start src dst args => exact ran_budgetKept (takeStart_budgetKept src dst args s)
  | pause src dst => exact ran_budgetKept (takeCommand_budgetKept src dst pauseAct_alike s)
  | resume src dst => exact ran_budgetKept (takeCommand_budgetKept src dst resumeAct_alike s)
  | abort src dst => exact ran_budgetKept (takeCommand_budgetKept src dst abortAct_alike s)
  | skip src dst => exact ran_budgetKept (takeCommand_budgetKept src dst skipAct_alike s)
  | confirm src dst => exact ran_budgetKept (takeCommand_budgetKept src dst confirmAct_alike s)
  | clear src dst => exact ran_budgetKept (takeCommand_budgetKept src dst clearAct_alike s)
  | tare src dst => exact ran_budgetKept (takeCommand_budgetKept src dst tareAct_alike s)
  | openSlot src dst args => exact ran_budgetKept (takeCommand_budgetKept src dst (openSlotAct_alike args) s)
  | closeSlot src dst args => exact ran_budgetKept (takeCommand_budgetKept src dst (closeSlotAct_alike args) s)
  | restart src dst => exact ran_budgetKept (takeCommand_budgetKept src dst (fun _ => {}) s)
  | unknownCommand src dst code =>
    change AnswerBudgetKept s (execUnknownCommand src dst code s)
    exact ran_budgetKept (.ite (fun _ => .refl s) fun _ => takeCommand_budgetKept src dst .refl s)
  -- queries
  | status src dst => exact ran_budgetKept (takeRequest_budgetKept src dst (fun u => answer_alike _ _ _ _ _ u) s)
  | sample src dst | row src dst | slot src dst | step src dst | journal src dst | marks src dst =>
    exact ran_budgetKept (takeQuery_budgetKept src dst _ s)
  | unknownItem src dst item index =>
    change AnswerBudgetKept s (execUnknownItem src dst item index s)
    exact ran_budgetKept (.ite (fun _ => .refl s) fun _ =>
      takeRequest_budgetKept src dst (fun u => answer_alike _ _ _ _ _ u) s)

/-- Settles O58: a grant rises only as far as the others leave room, and LIVE is entered with a ready table. -/
theorem grantsStayWithinTheBudget : Obligations.GrantsStayWithinTheBudget := by
  intro s t within stepped
  unfold step at stepped
  split at stepped
  · cases stepped; exact within
  · exact exec_budgetKept _ _ t stepped (Alike.budgetKept (t := { s with pending := _ }) {} within)

end Sys2Proof.Machine
end

-- ==== What the share unit's operations give ====
section
/-! SUPPORT. Each operation on the share table, the evict mask and the transmit slots as the one state it answers,
and how a taken frame of a peer reaches the share unit. -/

namespace Sys2Proof.Machine

variable {s t u : State} {src : Station} {dst : Dest}

/-! ## The EVICT slot follows its mask (R62) -/

/-- What is on the line is the frame that was: a filled or emptied slot only marks it as changed (R171). -/
def StillSent (s : State) (sent : Option LineFrame) : Prop :=
  sent.map LineFrame.frame = s.line.onLine.map LineFrame.frame

theorem StillSent.refl (s : State) : StillSent s s.line.onLine := rfl

@[simp] theorem frame_comp_changed (kind : Fin 16) :
    (LineFrame.frame ∘ fun f : LineFrame => if f.frame.kind = kind then { f with changed := true } else f) =
      LineFrame.frame := by
  funext f; simp only [Function.comp]; split <;> rfl

theorem touchSent_stillSent (kind : Fin 16) (s : State) : StillSent s (touchSent kind s).line.onLine := by
  simp [StillSent]

theorem StillSent.eq_none {sent : Option LineFrame} (still : StillSent s sent) (free : s.line.onLine = none) :
    sent = none := by
  simpa [StillSent, free] using still

theorem StillSent.of_line {sent : Option LineFrame} (still : StillSent t sent) (same : t.line = s.line) :
    StillSent s sent := by rwa [StillSent, same] at still

theorem syncEvict_eq (s : State) : ∃ sent, StillSent s sent ∧ syncEvict s = { s with
    tx := { s.tx with evict := evictFor s.share.pendingEvict }, line := { s.line with onLine := sent } } := by
  unfold syncEvict
  split
  · next same => exact ⟨_, .refl s, by rw [← same]⟩
  · exact ⟨_, touchSent_stillSent 0 s, rfl⟩

theorem setPendingEvict_eq (mask : StationSet) (s : State) : ∃ sent, StillSent s sent ∧
    setPendingEvict mask s = { s with
      share := { s.share with pendingEvict := mask }, tx := { s.tx with evict := evictFor mask }
      line := { s.line with onLine := sent } } :=
  syncEvict_eq { s with share := { s.share with pendingEvict := mask } }

/-- A mask that names a station calls for an EVICT. -/
theorem evictFor_or_stationBit (mask : StationSet) (i : Station) :
    evictFor (mask ||| stationBit i) = some (mask ||| stationBit i) := by
  have named : (mask ||| stationBit i).getLsbD i.val = true := by
    rw [BitVec.getLsbD_or, (stationBit_getLsbD i i).2 rfl, Bool.or_true]
  refine if_neg fun none => ?_
  simp [none] at named

/-! ## Rows (R54, R59) -/

theorem set_row_ne {i j : Station} (other : j ≠ i) (rows : Vector Row 16) (r : Row) :
    (rows.set i.val r)[j] = rows[j] := by
  simp [Vector.getElem_set_ne, Fin.val_ne_of_ne other.symm]

/-- An ABSENT row is created PRESENT with no grant and its silence timer running. -/
theorem orCreated_fields (r : Row) :
    r.orCreated.status = (if r.status ≠ .absent then r.status else .present) ∧
      r.orCreated.silence = (if r.status ≠ .absent then r.silence else .running) ∧
      r.orCreated.grant = if r.status ≠ .absent then r.grant else 0 := by
  unfold Row.orCreated
  split <;> simp_all [Row.created]

/-- The grants of the others as a sum over them alone (R54). -/
theorem otherGrants_eq (rows : Vector Row 16) (i : Station) :
    otherGrants rows i = (((List.finRange 16).filter (· ≠ i)).map fun j => rows[j].grant).sum := by
  unfold otherGrants
  induction List.finRange 16 with
  | nil => rfl
  | cons j l ih =>
    by_cases same : j = i
    · simpa [same] using ih
    · simpa [same] using ih

/-! ## A taken frame of a peer (R53, R171, R173) -/

theorem handed_iff (dst : Dest) : Dest.handed dst = true ↔ dst.val < 16 ∨ dst.val = 31 := by simp [Dest.handed]

/-- A frame for the share unit reaches it with its source noted. -/
theorem ran_takeShared (peer : PeerFrame src s) (handed : dst.val < 16 ∨ dst.val = 31) {handle : State → State}
    (handles : handle (noted src s) = t) : ran (takeShared src dst handle) s = .next t := by
  rw [ran_of_high _ _ peer.1, takeShared, takeFrame_peer peer, if_pos ((handed_iff dst).2 handed), handles]

/-- A frame to a destination of 16 to 30, or one on which the share unit does not act, is only noted. -/
theorem ran_takeShared_noted (peer : PeerFrame src s) {handle : State → State}
    (idle : (16 ≤ dst.val ∧ dst.val ≠ 31) ∨ handle (noted src s) = noted src s) :
    ran (takeShared src dst handle) s = .next (noted src s) := by
  rw [ran_of_high _ _ peer.1, takeShared, takeFrame_peer peer]
  rcases idle with unhanded | same
  · rw [if_neg fun handed => by have := (handed_iff dst).1 handed; omega]
  · rw [same, ite_self]

theorem heard_iff (src : Station) (s : State) :
    (s.line.participation.hears && s.share.rows[src].status = .present) = true ↔
      (s.line.participation = .live ∨ s.line.participation = .listen) ∧ s.share.rows[src].status = .present := by
  simp [Participation.hears]

theorem noted_of_present (hears : s.line.participation = .live ∨ s.line.participation = .listen)
    (present : s.share.rows[src].status = .present) : ∃ sent, StillSent s sent ∧ noted src s = { s with
      line := { (checkedGood s).line with onLine := sent }
      share := { s.share with
        rows := s.share.rows.set src.val { s.share.rows[src] with silence := .running }
        pendingEvict := s.share.pendingEvict &&& ~~~stationBit src }
      tx := { s.tx with evict := evictFor (s.share.pendingEvict &&& ~~~stationBit src) } } := by
  have heard := (heard_iff src (checkedGood s)).2 ⟨hears, present⟩
  rw [noted, heardFrom, if_pos heard]
  exact setPendingEvict_eq (s.share.pendingEvict &&& ~~~stationBit src)
    (setRow src { s.share.rows[src] with silence := .running } (checkedGood s))

theorem noted_of_other (unheard : (s.line.participation ≠ .live ∧ s.line.participation ≠ .listen) ∨
    s.share.rows[src].status ≠ .present) : noted src s = checkedGood s := by
  refine if_neg fun heard => ?_
  obtain ⟨hears, present⟩ := (heard_iff src (checkedGood s)).1 heard
  exact unheard.elim (fun deaf => hears.elim deaf.1 deaf.2) fun absent => absent present

/-- A noted source touches the verdict's fields of the line, the silence of its row and the pending evict mask alone. -/
theorem noted_eq (src : Station) (s : State) : ∃ sent rows pending evict, StillSent s sent ∧ noted src s = { s with
    line := { (checkedGood s).line with onLine := sent }
    share := { s.share with rows := rows, pendingEvict := pending }, tx := { s.tx with evict := evict } } := by
  by_cases heard : (s.line.participation = .live ∨ s.line.participation = .listen) ∧ s.share.rows[src].status = .present
  · obtain ⟨sent, still, eq⟩ := noted_of_present heard.1 heard.2
    exact ⟨sent, _, _, _, still, eq⟩
  · have same : noted src s = checkedGood s := noted_of_other (by simpa only [not_and_or, not_or] using heard)
    exact ⟨_, _, _, _, .refl s, same⟩

@[simp] theorem noted_share_inbox (src : Station) (s : State) :
    (noted src s).share.mismatch = s.share.mismatch ∧ (noted src s).share.usable = s.share.usable ∧
      (noted src s).inbox = s.inbox := by
  obtain ⟨sent, rows, pending, evict, -, eq⟩ := noted_eq src s
  rw [eq]
  exact ⟨rfl, rfl, rfl⟩

theorem noted_budget (src : Station) (s : State) : (noted src s).budget = 16 + 8 * s.straps.budget.val := by
  simp [State.budget, budgetUnits]

end Sys2Proof.Machine
end

-- ==== Taken frames at the share unit ====
section
/-! SUPPORT. A peer's CLAIM, PRESENCE and EVICT, and its silence; O37, O48, O49 and O50. -/

namespace Sys2Proof.Machine

variable {s t u : State} {src : Station} {dst : Dest}

/-! ## Frames that are noted, and abandoned ones (R53, R166, R171) -/

/-- A frame that a RESTART abandoned ends without effect and without a verdict (R166). -/
theorem ran_abandoned (high : s.resetN = true) (abandoned : s.line.abandoned = true) {op frame : State → State}
    (ends : op s = atFrameEnd frame s) :
    ran op s = .next { s with line := { s.line with abandoned := false, verdict := .nothing } } := by
  rw [ran_of_high _ _ high, ends, atFrameEnd_of_abandoned _ _ abandoned]

theorem offerOp_line (rival : Option Byte) (s : State) :
    (offerOp rival s).line = { s.line with abandoned := false, onLine := (offerOp rival s).line.onLine } := by
  simp only [offerOp, offerNext]
  split
  · rfl
  · split <;> rfl

theorem execOtherKindTaken_noted (peer : PeerFrame src s) {kind : Fin 16} (other : kind.val = 7 ∨ 9 ≤ kind.val) :
    exec (.otherKindTaken src dst kind) s = .next (noted src s) := by
  have plain : otherKind kind = true := by simpa [otherKind] using other
  change ran (fun u => if otherKind kind then takeFrame src id u else u) s = _
  rw [ran_of_high _ _ peer.1, if_pos plain, takeFrame_peer peer, id]

/-- Settles O37: an abandoned frame ends before its handler, and a source is noted whatever its row. -/
theorem takenFramesAreNoted : Obligations.TakenFramesAreNoted := by
  refine ⟨fun src dst a b w m marks record args opening closing verdict s high abandoned => ?abandoned,
    fun rival s high => ?offer, fun src dst kind s peer other => ?noted⟩
  case abandoned =>
    simp only [List.forall_mem_cons, List.not_mem_nil, false_implies, implies_true, and_true]
    and_intros <;> exact ran_abandoned high abandoned rfl
  case offer =>
    refine ⟨offerOp rival s, ran_of_high _ _ high, ?_, ?_⟩ <;> rw [offerOp_line]
  case noted =>
    intro t row p
    obtain ⟨sent, rows, pending, evict, still, eq⟩ := noted_eq src s
    refine ⟨execOtherKindTaken_noted peer other, ?spoil, ?verdict, ?sent, fun hears present => ?present,
      fun unheard => ?other, ?frame⟩
    case spoil => rw [show t = _ from eq]; rfl
    case verdict => rw [show t = _ from eq]; rfl
    case sent => rw [show t = _ from eq]; exact still
    case present =>
      obtain ⟨sent, -, eq⟩ := noted_of_present hears present
      rw [show t = _ from eq]
      exact ⟨rfl, rfl, rfl⟩
    case other =>
      have same : t = checkedGood s := noted_of_other unheard
      rw [same]
      exact ⟨rfl, rfl⟩
    case frame => rw [show t = _ from eq]; rfl

/-! ## A CLAIM (R54, R73) -/

/-- Out of LIVE and LISTEN the share unit acts on no frame (R53). -/
theorem claimOp_deaf (deaf : s.line.participation ≠ .live ∧ s.line.participation ≠ .listen) (requested want : Byte) :
    claimOp src requested want s = s := by
  obtain ⟨live, listen⟩ := deaf
  cases p : s.line.participation <;> simp_all [claimOp]

/-- What a peer's CLAIM makes of its row (R54, R73). -/
structure Claimed (src : Station) (requested want : Byte) (s : State) (row : Row) : Prop where
  status : row.status = s.share.rows[src].orCreated.status
  silence : row.silence = s.share.rows[src].orCreated.silence
  want : row.want = min 25 want.toNat
  released : requested.toNat ≤ s.share.rows[src].orCreated.grant → row.grant = requested.toNat
  increased : s.share.rows[src].orCreated.grant < requested.toNat → s.line.participation = .live →
    row.grant = min requested.toNat (s.budget - otherGrants s.share.rows src)
  listened : s.line.participation = .listen →
    (s.share.rows[src].orCreated.grant < requested.toNat → row.grant = s.share.rows[src].orCreated.grant) ∧
      (row.settled = true ↔ requested.toNat ≤ s.share.rows[src].orCreated.grant)

theorem claimedRow_claimed (requested want : Byte) (live : s.line.participation = .live) :
    Claimed src requested want s (claimedRow s.budget s.share.rows src requested want) where
  status := rfl
  silence := rfl
  want := rfl
  released := fun release => if_pos release
  increased := fun increase _ => if_neg (Nat.not_le.2 increase)
  listened := fun listen => by simp [live] at listen

theorem listenedClaimRow_claimed (requested want : Byte) (listen : s.line.participation = .listen) :
    Claimed src requested want s (listenedClaimRow s.share.rows[src] requested want) := by
  simp only [listenedClaimRow]
  split
  · next release =>
    exact ⟨rfl, rfl, rfl, fun _ => rfl, fun increase => absurd release (Nat.not_le.2 increase), fun _ =>
      ⟨fun increase => absurd release (Nat.not_le.2 increase), iff_of_true rfl release⟩⟩
  · next increase =>
    exact ⟨rfl, rfl, rfl, fun release => absurd release increase, fun _ live => by simp [live] at listen, fun _ =>
      ⟨fun _ => rfl, iff_of_false Bool.false_ne_true increase⟩⟩

theorem claimOp_claimed (requested want : Byte)
    (hears : s.line.participation = .live ∨ s.line.participation = .listen) :
    ∃ row, Claimed src requested want s row ∧ claimOp src requested want s = setRow src row s := by
  rcases hears with live | listen
  · exact ⟨_, claimedRow_claimed requested want live, by simp only [claimOp, live]⟩
  · exact ⟨_, listenedClaimRow_claimed requested want listen, by simp only [claimOp, listen]⟩

/-- Settles O48: the row of the noted state is written as `Claimed` says, and nothing else. -/
theorem peerClaimsSetTheGrant : Obligations.PeerClaimsSetTheGrant := by
  intro src dst requested want s peer n row command known held others
  have participation : n.line.participation = s.line.participation := noted_participation src s
  refine ⟨fun handed hears => ?heard, fun idle => ran_takeShared_noted peer (idle.imp_right fun deaf => ?deaf)⟩
  case deaf => exact claimOp_deaf (participation ▸ deaf) requested want
  case heard =>
    obtain ⟨row', claimed, eq⟩ := claimOp_claimed (src := src) requested want (participation ▸ hears)
    obtain ⟨status, silence, created⟩ := orCreated_fields row
    have created : n.share.rows[src].orCreated.grant = held := created
    have written : (setRow src row' n).share.rows[src] = row' := setRow_at src row' n
    refine ⟨setRow src row' n, ran_takeShared peer handed eq, ?status, ?silence, ?want, fun release => ?released,
      fun increase live => ?increased, fun listen => ?listened, fun i other => set_row_ne other _ _, rfl⟩
    all_goals rw [written]
    case status => exact claimed.status.trans status
    case silence => exact claimed.silence.trans silence
    case want => exact claimed.want
    case released => exact claimed.released (created ▸ release)
    case increased =>
      rw [claimed.increased (created ▸ increase) (participation.trans live), otherGrants_eq, noted_budget]
    case listened => rw [← created]; exact claimed.listened (participation.trans listen)

/-! ## A PRESENCE (R59, R60, R72, R155) -/

theorem presenceOp_deaf (deaf : s.line.participation ≠ .live ∧ s.line.participation ≠ .listen)
    (codes grant want : Byte) : presenceOp src codes grant want s = s := by
  obtain ⟨live, listen⟩ := deaf
  cases p : s.line.participation <;> simp_all [presenceOp]

theorem postMarks_eq (src : Station) (marks : Option (Byte × MarkSet))
    (hears : s.line.participation = .live ∨ s.line.participation = .listen) :
    postMarks src marks s = { s with inbox := { s.inbox with
      marks := s.inbox.marks ++ (match marks with | none => [] | some (tag, set) => [⟨src, tag, set⟩]) } } := by
  cases marks with
  | none => simp [postMarks]
  | some m => simp [postMarks, Participation.hears, hears]

theorem postMarks_deaf (deaf : s.line.participation ≠ .live ∧ s.line.participation ≠ .listen) (src : Station)
    (marks : Option (Byte × MarkSet)) : postMarks src marks s = s := by
  cases marks with
  | none => rfl
  | some m => simp [postMarks, Participation.hears, deaf]

/-- Whether a sender's budget code is another one and not yet reported (R60). -/
def Mismatched (src : Station) (codes : Byte) (s : State) : Prop :=
  codes.toNat / 4 % 8 ≠ s.straps.budget.val ∧ s.share.mismatch.getLsbD src.val = false

theorem budgetCheck_of_mismatched {codes : Byte} (other : Mismatched src codes s) :
    budgetCheck src codes s = { s with
      share := { s.share with mismatch := s.share.mismatch ||| stationBit src }
      inbox := { s.inbox with reports := s.inbox.reports ++ [.budgetMismatch] } } :=
  if_pos ⟨other.1, by rw [other.2]; rfl⟩

theorem budgetCheck_of_not {codes : Byte} (fine : ¬Mismatched src codes s) : budgetCheck src codes s = s :=
  if_neg fun other => fine ⟨other.1, by simpa using other.2⟩

/-- What a peer's PRESENCE makes of the share table, but for the budget code (R59, R72). -/
structure Presented (src : Station) (grant want : Byte) (s t : State) : Prop where
  status : t.share.rows[src].status = s.share.rows[src].orCreated.status
  silence : t.share.rows[src].silence = s.share.rows[src].orCreated.silence
  want : t.share.rows[src].want = min 25 want.toNat
  lowered : s.line.participation = .live →
    t.share.rows[src].grant = min s.share.rows[src].orCreated.grant grant.toNat
  recorded : s.line.participation = .listen →
    t.share.rows[src].grant = min s.budget grant.toNat ∧ t.share.rows[src].settled = true
  others : ∀ i : Station, i ≠ src → t.share.rows[i] = s.share.rows[i]
  disagrees : s.line.participation = .live ∧ s.share.rows[src].orCreated.grant < grant.toNat →
    t.journal = s.journal.add (.station s.engine.tag s.engine.clock (.disagree src)) ∧
      t.share.pendingEvict = s.share.pendingEvict ||| stationBit src ∧ t.tx.evict = some t.share.pendingEvict
  agrees : ¬(s.line.participation = .live ∧ s.share.rows[src].orCreated.grant < grant.toNat) →
    t.journal = s.journal ∧ t.share.pendingEvict = s.share.pendingEvict ∧ t.tx = s.tx
  frame : t = { s with
    share := { s.share with rows := t.share.rows, pendingEvict := t.share.pendingEvict }
    tx := { s.tx with evict := t.tx.evict }, line := { s.line with onLine := t.line.onLine }, journal := t.journal }

/-- A row written alone is presented where the PRESENCE is no disagreement. -/
theorem setRow_presented {grant want : Byte} {row : Row} (status : row.status = s.share.rows[src].orCreated.status)
    (silence : row.silence = s.share.rows[src].orCreated.silence) (recordedWant : row.want = min 25 want.toNat)
    (agrees : ¬(s.line.participation = .live ∧ s.share.rows[src].orCreated.grant < grant.toNat))
    (lowered : s.line.participation = .live → row.grant = min s.share.rows[src].orCreated.grant grant.toNat)
    (recorded : s.line.participation = .listen → row.grant = min s.budget grant.toNat ∧ row.settled = true) :
    Presented src grant want s (setRow src row s) := by
  have written := setRow_at src row s
  exact {
    status := by rw [written, status]
    silence := by rw [written, silence]
    want := by rw [written, recordedWant]
    lowered := by rwa [written]
    recorded := by rwa [written]
    others := fun i other => set_row_ne other _ _
    disagrees := fun disagrees => absurd disagrees agrees
    agrees := fun _ => ⟨rfl, rfl, rfl⟩
    frame := rfl }

theorem presenceListen_presented (grant want : Byte) (listen : s.line.participation = .listen) :
    Presented src grant want s (presenceListen src grant want s) :=
  setRow_presented rfl rfl rfl (fun disagrees => by simp [listen] at disagrees) (fun live => by simp [live] at listen)
    fun _ => ⟨rfl, rfl⟩

theorem presenceLive_presented (grant want : Byte) (live : s.line.participation = .live) :
    Presented src grant want s (presenceLive src grant want s) := by
  simp only [presenceLive]
  split
  · next higher =>
    obtain ⟨sent, -, eq⟩ := setPendingEvict_eq (s.share.pendingEvict ||| stationBit src)
      (noteEvent (.disagree src) (setRow src { s.share.rows[src].orCreated with want := recordedWant want } s))
    have written := setRow_at src { s.share.rows[src].orCreated with want := recordedWant want } s
    rw [show addPending src _ = _ from eq]
    exact {
      status := (congrArg Row.status written).trans rfl
      silence := (congrArg Row.silence written).trans rfl
      want := (congrArg Row.want written).trans rfl
      lowered := fun _ => (congrArg Row.grant written).trans (Nat.min_eq_left (Nat.le_of_lt higher)).symm
      recorded := fun listen => by simp [live] at listen
      others := fun i other => set_row_ne other _ _
      disagrees := fun _ => ⟨rfl, rfl, evictFor_or_stationBit _ _⟩
      agrees := fun agrees => absurd ⟨live, higher⟩ agrees
      frame := rfl }
  · next lower =>
    exact setRow_presented rfl rfl rfl (fun disagrees => lower disagrees.2)
      (fun _ => (Nat.min_eq_right (Nat.not_lt.1 lower)).symm) fun listen => by simp [live] at listen

theorem presenceOp_presented (codes grant want : Byte)
    (hears : s.line.participation = .live ∨ s.line.participation = .listen) :
    ∃ u, Presented src grant want s u ∧ presenceOp src codes grant want s = budgetCheck src codes u := by
  rcases hears with live | listen
  · exact ⟨_, presenceLive_presented grant want live, by simp only [presenceOp, live]⟩
  · exact ⟨_, presenceListen_presented grant want listen, by simp only [presenceOp, listen]⟩

/-- The budget check and the marks of a PRESENCE, after its row (R60, R155). -/
theorem budgetCheck_postMarks (src : Station) (codes : Byte) (marks : Option (Byte × MarkSet))
    (hears : s.line.participation = .live ∨ s.line.participation = .listen) : ∃ mismatch reports,
    (Mismatched src codes s → mismatch = s.share.mismatch ||| stationBit src ∧
      reports = s.inbox.reports ++ [.budgetMismatch]) ∧
    (¬Mismatched src codes s → mismatch = s.share.mismatch ∧ reports = s.inbox.reports) ∧
    postMarks src marks (budgetCheck src codes s) = { s with
      share := { s.share with mismatch := mismatch }
      inbox := { s.inbox with
        marks := s.inbox.marks ++ (match marks with | none => [] | some (tag, set) => [⟨src, tag, set⟩])
        reports := reports } } := by
  by_cases other : Mismatched src codes s
  · rw [budgetCheck_of_mismatched other, postMarks_eq src marks (by exact hears)]
    exact ⟨_, _, fun _ => ⟨rfl, rfl⟩, fun fine => absurd other fine, rfl⟩
  · rw [budgetCheck_of_not other, postMarks_eq src marks hears]
    exact ⟨_, _, fun mismatched => absurd mismatched other, fun _ => ⟨rfl, rfl⟩, rfl⟩

/-- Settles O49: the row, then the budget check, then the marks of the PRESENCE, each from the noted state. -/
theorem peerPresencesSetTheRow : Obligations.PeerPresencesSetTheRow := by
  intro src dst states codes grant want marks s peer n row command known held disagrees mismatch
  have participation : n.line.participation = s.line.participation := noted_participation src s
  refine ⟨fun handed hears => ?heard, fun idle => ran_takeShared_noted peer (idle.imp_right fun deaf => ?deaf)⟩
  case deaf =>
    have deaf : n.line.participation ≠ .live ∧ n.line.participation ≠ .listen := participation ▸ deaf
    exact (congrArg (postMarks src marks) (presenceOp_deaf deaf codes grant want)).trans (postMarks_deaf deaf src marks)
  case heard =>
    obtain ⟨u, presented, eq⟩ := presenceOp_presented (src := src) codes grant want (participation ▸ hears)
    have heardAt : u.line.participation = .live ∨ u.line.participation = .listen := by
      rw [presented.frame]; exact participation ▸ hears
    obtain ⟨codesHeard, reports, reported, quiet, after⟩ := budgetCheck_postMarks src codes marks heardAt
    obtain ⟨status, silence, created⟩ := orCreated_fields row
    have created : n.share.rows[src].orCreated.grant = held := created
    have disagrees_iff :
        (n.line.participation = .live ∧ n.share.rows[src].orCreated.grant < grant.toNat) ↔ disagrees := by
      rw [participation, created]
    obtain ⟨straps, codesBefore, inbox⟩ :
        u.straps = s.straps ∧ u.share.mismatch = s.share.mismatch ∧ u.inbox = s.inbox := by
      rw [presented.frame]; simp [n]
    have mismatch_iff : Mismatched src codes u ↔ mismatch := by rw [Mismatched, straps, codesBefore]
    rw [codesBefore, inbox] at reported quiet
    refine ⟨_, ran_takeShared peer handed ((congrArg (postMarks src marks) eq).trans after),
      presented.status.trans status, presented.silence.trans silence, presented.want,
        fun live => ?lowered, fun listen => ?recorded, presented.others,
      fun disagree => ?disagrees, fun agree => presented.agrees (disagrees_iff.not.2 agree) |>.imp_left ?agrees,
      fun other => reported (mismatch_iff.2 other), fun fine => quiet (mismatch_iff.not.2 fine), ?marks, ?frame⟩
    case lowered => rw [← created]; exact presented.lowered (participation.trans live)
    case recorded => rw [← noted_budget src s]; exact presented.recorded (participation.trans listen)
    case disagrees => simpa [n, stationBit] using presented.disagrees (disagrees_iff.2 disagree)
    case agrees => simp [n]
    case marks => exact congrArg (fun i : Inbox => i.marks ++ _) inbox
    case frame =>
      obtain ⟨rows, pending, evict, sent, journal, same⟩ : ∃ rows pending evict sent journal, u = { n with
        share := { n.share with rows := rows, pendingEvict := pending }, tx := { n.tx with evict := evict }
        line := { n.line with onLine := sent }, journal := journal } := ⟨_, _, _, _, _, presented.frame⟩
      rw [same]

/-! ## An EVICT (R57, R58, R74) -/

theorem evictOp_deaf (deaf : s.line.participation ≠ .live ∧ s.line.participation ≠ .listen) (mask : StationSet) :
    evictOp src mask s = s := by
  obtain ⟨live, listen⟩ := deaf
  cases p : s.line.participation <;> simp_all [evictOp]

/-- The station's own eviction takes its grant, its CLAIM and its usable units, and is written and reported (R58). -/
theorem ownEviction_eq (src : Station) (s : State) : ∃ sent, StillSent s sent ∧ ownEviction src s = { s with
    share := { s.share with rows := s.share.rows.set s.own.val { s.ownRow with grant := 0 }, usable := 0 }
    tx := { s.tx with claim := none }, line := { s.line with onLine := sent }
    journal := s.journal.add (.station s.engine.tag s.engine.clock (.evicted src))
    inbox := { s.inbox with
      usables := s.inbox.usables ++ if s.share.usable = 0 then [] else [0]
      reports := s.inbox.reports ++ [.lostPower] } } := by
  refine ⟨_, touchSent_stillSent 1 s, ?_⟩
  simp only [ownEviction, setUsable_eq, eq_comm (a := 0)]
  rfl

theorem syncEvict_withoutRows (mask pending : StationSet) (s : State) :
    ∃ sent, StillSent s sent ∧ syncEvict (withoutRows mask pending s) = { s with
      share := { s.share with rows := evictedRows s.share.rows s.own mask, pendingEvict := pending }
      tx := { s.tx with evict := evictFor pending }, line := { s.line with onLine := sent } } := by
  obtain ⟨sent, still, eq⟩ := syncEvict_eq (withoutRows mask pending s)
  refine ⟨sent, still.of_line (by simp), eq.trans ?_⟩
  simp only [withoutRows]

/-- In LIVE the named rows but the own one are gone, and the named stations are no longer to be evicted (R57). -/
theorem evictLive_spared {mask : StationSet} (src : Station) (spared : ¬mask.getLsbD s.own.val = true) :
    ∃ sent, StillSent s sent ∧ evictLive src mask s = { s with
      share := { s.share with
        rows := evictedRows s.share.rows s.own mask, pendingEvict := s.share.pendingEvict &&& ~~~mask }
      tx := { s.tx with evict := evictFor (s.share.pendingEvict &&& ~~~mask) }
      line := { s.line with onLine := sent } } := by
  rw [evictLive_eq, if_neg spared]
  exact syncEvict_withoutRows mask _ s

/-- An EVICT in LIVE that names the own station is its own eviction as well (R58). -/
theorem evictLive_named {mask : StationSet} (src : Station) (named : mask.getLsbD s.own.val = true) :
    ∃ sent, StillSent s sent ∧ evictLive src mask s = { s with
      share := { s.share with
        rows := (evictedRows s.share.rows s.own mask).set s.own.val { s.ownRow with grant := 0 }
        pendingEvict := s.share.pendingEvict &&& ~~~mask, usable := 0 }
      tx := { s.tx with evict := evictFor (s.share.pendingEvict &&& ~~~mask), claim := none }
      line := { s.line with onLine := sent }
      journal := s.journal.add (.station s.engine.tag s.engine.clock (.evicted src))
      inbox := { s.inbox with
        usables := s.inbox.usables ++ if s.share.usable = 0 then [] else [0]
        reports := s.inbox.reports ++ [.lostPower] } } := by
  rw [evictLive_eq, if_pos named]
  obtain ⟨sent, still, emptied⟩ := syncEvict_withoutRows mask (s.share.pendingEvict &&& ~~~mask) s
  generalize syncEvict (withoutRows mask (s.share.pendingEvict &&& ~~~mask) s) = u at emptied
  have own : u.own = s.own := own_of_straps (by rw [emptied])
  have row : u.ownRow = s.ownRow := by
    simp only [State.ownRow, State.own, emptied]
    exact (evictedRows_row _ _ _ _).trans (if_neg fun out => out.1 rfl)
  obtain ⟨sent', still', evicted⟩ := ownEviction_eq src u
  have line : u.line = { s.line with onLine := sent } := congrArg State.line emptied
  refine ⟨sent', Eq.trans (by rwa [StillSent, line] at still') still, evicted.trans ?_⟩
  simp only [own, row]
  simp only [emptied]

/-- The rows after an EVICT, with the own row as the station's own eviction leaves it. -/
theorem evicted_row (own : Prop) [Decidable own] (rows : Vector Row 16) (station i : Station) (mask : StationSet)
    (r : Row) (other : i ≠ station) :
    (if own then (evictedRows rows station mask).set station.val r else evictedRows rows station mask)[i] =
      if mask.getLsbD i.val = true then Row.absent else rows[i] := by
  split
  · rw [set_row_ne other, evictedRows_row]; simp [other]
  · rw [evictedRows_row]; simp [other]

theorem evicted_own (own : Prop) [Decidable own] (rows : Vector Row 16) (station : Station) (mask : StationSet)
    (r : Row) :
    (if own then (evictedRows rows station mask).set station.val r else evictedRows rows station mask)[station] =
      if own then r else rows[station] := by
  split
  · simp
  · rw [evictedRows_row]; simp

/-- A peer's EVICT in LIVE and in LISTEN (R57, R58, R74). -/
theorem evictOp_eq (mask : StationSet) (hears : s.line.participation = .live ∨ s.line.participation = .listen) :
    let live := s.line.participation = .live
    let own := mask.getLsbD s.own.val = true
    ∃ sent, StillSent s sent ∧ evictOp src mask s = { s with
      share := { s.share with
        rows := if own ∧ live then (evictedRows s.share.rows s.own mask).set s.own.val { s.ownRow with grant := 0 }
          else evictedRows s.share.rows s.own mask
        pendingEvict := if live then s.share.pendingEvict &&& ~~~mask else s.share.pendingEvict
        usable := if own ∧ live then 0 else s.share.usable }
      tx := { s.tx with
        evict := if live then evictFor (s.share.pendingEvict &&& ~~~mask) else s.tx.evict
        claim := if own ∧ live then none else s.tx.claim }
      line := { s.line with onLine := sent }
      journal := if own then s.journal.add (.station s.engine.tag s.engine.clock (.evicted src)) else s.journal
      inbox := { s.inbox with
        usables := if own ∧ live then s.inbox.usables ++ (if s.share.usable = 0 then [] else [0]) else s.inbox.usables
        reports := if own ∧ live then s.inbox.reports ++ [.lostPower] else s.inbox.reports } } := by
  intro live own
  rcases hears with h | h
  · have lives : live := h
    by_cases named : own
    · simpa [evictOp, h, lives, named] using evictLive_named src named
    · simpa [evictOp, h, lives, named] using evictLive_spared src named
  · have listens : ¬live := by simp [live, h]
    have listened : evictOp src mask s = evictListen src mask s := by simp only [evictOp, h]
    refine ⟨_, .refl s, ?_⟩
    rw [listened]
    by_cases named : own
    · simp only [listens, named, and_false, if_true, if_false]
      exact if_pos named
    · simp only [listens, named, and_false, if_false]
      exact if_neg named

/-! ## Silence (R61, R74) -/

theorem silenceOp_live {peer : Station} (present : s.share.rows[peer].status = .present)
    (silent : s.share.rows[peer].silence = .running) (live : s.line.participation = .live) :
    ∃ sent, StillSent s sent ∧ silenceOp peer s = { s with
      share := { s.share with
        rows := s.share.rows.set peer.val { s.share.rows[peer] with silence := .expired }
        pendingEvict := s.share.pendingEvict ||| stationBit peer }
      tx := { s.tx with evict := some (s.share.pendingEvict ||| stationBit peer) }
      line := { s.line with onLine := sent } } := by
  have expired : silenceOp peer s =
      addPending peer (setRow peer { s.share.rows[peer] with silence := .expired } s) := by
    simp only [silenceOp, present, silent, live, and_self, if_true]
  rw [expired, ← evictFor_or_stationBit]
  exact setPendingEvict_eq _ (setRow peer { s.share.rows[peer] with silence := .expired } s)

theorem silenceOp_listen {peer : Station} (present : s.share.rows[peer].status = .present)
    (silent : s.share.rows[peer].silence = .running) (listen : s.line.participation = .listen) :
    silenceOp peer s = setRow peer { s.share.rows[peer] with silence := .expired, settled := false } s := by
  simp only [silenceOp, present, silent, listen, and_self, if_true]

theorem silenceOp_idle {peer : Station} (idle : s.share.rows[peer].status ≠ .present ∨
    s.share.rows[peer].silence ≠ .running ∨ (s.line.participation ≠ .live ∧ s.line.participation ≠ .listen)) :
    silenceOp peer s = s := by
  simp only [silenceOp]
  split
  · next due =>
    obtain ⟨live, listen⟩ := (idle.resolve_left (absurd due.1)).resolve_left (absurd due.2)
    cases p : s.line.participation <;> simp_all
  · rfl

/-- Settles O50: `evictOp_eq` at the noted state, and the silence of a row by the participation state. -/
theorem evictionsAndSilenceEmptyRows : Obligations.EvictionsAndSilenceEmptyRows := by
  refine ⟨fun src dst mask s peer => ?evict, fun peer s high => ?silence⟩
  case silence =>
    refine ⟨fun present silent => ⟨fun live => ?live, fun listen => ?listen⟩, fun idle => ?idle⟩
    case live =>
      obtain ⟨sent, -, eq⟩ := silenceOp_live present silent live
      exact ⟨_, (ran_of_high _ _ high).trans (congrArg _ eq), rfl, rfl, rfl, rfl⟩
    case listen => exact (ran_of_high _ _ high).trans (congrArg _ (silenceOp_listen present silent listen))
    case idle => exact (ran_of_high _ _ high).trans (congrArg _ (silenceOp_idle idle))
  case evict =>
    intro n p own
    have participation : n.line.participation = p := noted_participation src s
    have station : n.own = s.own := noted_own src s
    refine ⟨fun handed hears => ?heard, fun idle => ran_takeShared_noted peer (idle.imp_right fun deaf => ?deaf)⟩
    case deaf => exact evictOp_deaf (participation ▸ deaf) mask
    case heard =>
      obtain ⟨sent, -, eq⟩ := evictOp_eq (s := n) (src := src) mask (participation ▸ hears)
      have named_iff : mask.getLsbD n.own.val = true ↔ own := by rw [station]
      have live_iff : n.line.participation = .live ↔ p = .live := by rw [participation]
      have unchanged : n.share.usable = s.share.usable ∧ n.inbox = s.inbox := by simp [n]
      have away (listen : p = .listen) : ¬n.line.participation = .live := by rw [participation, listen]; simp
      refine ⟨_, ran_takeShared peer handed eq, fun i other => evicted_row _ _ _ _ _ _ (station ▸ other), ?ownRow,
        fun live => ⟨if_pos (live_iff.2 live), ?live⟩, fun listen => ⟨if_neg (away listen), ?listen⟩,
        fun named => ?named, fun spared => ?spared, fun named live => ?evicted, fun kept => ?kept, rfl⟩
      case ownRow =>
        refine (evicted_own _ n.share.rows n.own mask { n.ownRow with grant := 0 }).trans ?_
        simp only [named_iff, live_iff]
        rfl
      case live => simp only [live_iff.2 live, if_true]; rfl
      case listen => simp only [away listen, and_false, if_false]
      case named =>
        rw [if_pos (named_iff.2 named)]
        simp [n]
      case spared =>
        rw [if_neg (named_iff.not.2 spared)]
        simp [n]
      case evicted =>
        have both : mask.getLsbD n.own.val = true ∧ n.line.participation = .live := ⟨named_iff.2 named, live_iff.2 live⟩
        simp only [if_pos both, unchanged, and_self]
      case kept =>
        have neither : ¬(mask.getLsbD n.own.val = true ∧ n.line.participation = .live) := fun both =>
          kept.elim (absurd (named_iff.1 both.1)) fun listen => away listen both.2
        simp only [if_neg neither, unchanged, and_self]

end Sys2Proof.Machine
end

-- ==== Claim reviews, own frames and the LISTEN window ====
section
/-! SUPPORT. What a claim review, the end of an own frame and the timers of the line answer; O52, O54 and O56. -/

namespace Sys2Proof.Machine

variable {s t u : State}

/-! ## Claim reviews (R64, R66 to R69) -/

theorem usableUnits_some (grant : Nat) (c : ClaimFrame) : usableUnits grant (some c) = min c.requested grant := by
  simp only [usableUnits]
  split <;> omega

/-- With the CLAIM of a review waiting, the usable units are the target or the grant, whichever is lower. -/
theorem usableUnits_reviewClaim (target grant want : Nat) :
    usableUnits grant (reviewClaim target grant want) = min target grant := by
  unfold reviewClaim
  split
  · next same => rw [same, Nat.min_self]; rfl
  · exact usableUnits_some grant _

/-- A review leaves its CLAIM in the slot, and the usable units follow. -/
theorem review_eq (s : State) : review s =
    let target := reviewTarget s.budget s.share.rows s.own
    let usable := min target s.ownRow.grant
    { s with
      share := { s.share with usable := usable }
      tx := { s.tx with claim := reviewClaim target s.ownRow.grant s.ownRow.want }
      line := { s.line with onLine := (touchSent 1 s).line.onLine }
      inbox := { s.inbox with
        usables := s.inbox.usables ++ if usable = s.share.usable then [] else [usable] } } := by
  have follows : review s = setUsable (min (reviewTarget s.budget s.share.rows s.own) s.ownRow.grant)
      (setClaimSlot (reviewClaim (reviewTarget s.budget s.share.rows s.own) s.ownRow.grant s.ownRow.want) s) := by
    rw [← usableUnits_reviewClaim _ _ s.ownRow.want]; rfl
  rw [follows, setUsable_eq]
  rfl

/-- Another station's row is starved (R67 item 3). -/
def OtherStarved (rows : Vector Row 16) (own : Station) (fair : Nat) : Prop :=
  ∃ i : Station, i ≠ own ∧ rows[i].status = .present ∧ rows[i].grant < rows[i].want ∧ rows[i].grant < fair

theorem any_starved_iff (rows : Vector Row 16) (own : Station) (fair : Nat) :
    ((List.finRange 16).any fun i => i ≠ own && rows[i].starved fair) = true ↔ OtherStarved rows own fair := by
  simp [OtherStarved, Row.starved, and_assoc]

/-- The target is the own want, bounded by the fair share when another row is starved (R67). -/
theorem reviewTarget_of_starved {budget : Nat} {rows : Vector Row 16} {own : Station} (two : 2 ≤ wanting rows)
    (starved : OtherStarved rows own (budget / wanting rows)) :
    reviewTarget budget rows own = min rows[own].want (budget / wanting rows) := by
  have any := (any_starved_iff rows own _).2 starved
  rw [reviewTarget, fairShare, if_pos two]
  exact if_pos any

theorem reviewTarget_of_fed {budget : Nat} {rows : Vector Row 16} {own : Station}
    (fed : ¬(2 ≤ wanting rows ∧ OtherStarved rows own (budget / wanting rows))) :
    reviewTarget budget rows own = rows[own].want := by
  rw [reviewTarget, fairShare]
  split
  · rfl
  · next fair some =>
    split at some
    · next two =>
      cases some
      exact if_neg fun any => fed ⟨two, (any_starved_iff rows own _).1 any⟩
    · cases some

theorem wantChangeOp_of_wants {want : Nat} {rest : List Nat} (queued : s.inbox.wants = want :: rest) :
    wantChangeOp s =
      let u := setRow s.own { s.ownRow with want := want } { s with inbox := { s.inbox with wants := rest } }
      if s.line.participation = .live then review u else u := by
  simp only [wantChangeOp, queued]

/-- Settles O52: both events end in one review, a want change in the table that holds the new want. -/
theorem claimReviewsFollowTheFairShare : Obligations.ClaimReviewsFollowTheFairShare := by
  unfold Obligations.ClaimReviewsFollowTheFairShare
  intro reviewed
  have reviews (s : State) : reviewed s (review s) := by
    refine ⟨reviewTarget s.budget s.share.rows s.own, ?target, ?rest⟩
    case target =>
      split
      · next two => exact reviewTarget_of_starved two.1 two.2
      · next fed => exact reviewTarget_of_fed fed
    case rest =>
      rw [review_eq]
      exact ⟨rfl, rfl, rfl, rfl⟩
  refine ⟨fun s high => ⟨fun live running => ⟨review s, ?due, reviews s⟩, fun away => ?dueAway⟩,
    fun s want rest high queued => ⟨fun live => ⟨_, ?told, reviews _⟩, fun away => ?toldAway⟩⟩
  all_goals refine (ran_of_high _ _ high).trans (congrArg _ ?_)
  case due => exact if_pos ⟨live, running⟩
  case dueAway => exact if_neg fun due => away due.1
  case told => exact (wantChangeOp_of_wants queued).trans (if_pos live)
  case toldAway => exact (wantChangeOp_of_wants queued).trans (if_neg away)

/-! ## Entering LIVE and LISTEN (R71, R75, R76, R176, R177) -/

theorem ready_iff (s : State) : s.ready = true ↔
    (∀ i : Station, s.share.rows[i].status = .present → s.share.rows[i].settled = true) ∧
      ((List.finRange 16).map fun i => s.share.rows[i].grant).sum ≤ 16 + 8 * s.straps.budget.val := by
  simp only [State.ready, tableReady, Bool.and_eq_true, List.all_eq_true, List.mem_finRange, Bool.or_eq_true,
    decide_eq_true_eq, forall_const, ne_eq, ← imp_iff_not_or]
  rfl

/-- LIVE is entered with the table as it stands, JOINED written, a PRESENCE and the first review's CLAIM waiting. -/
theorem enterLive_eq (s : State) :
    let target := reviewTarget s.budget s.share.rows s.own
    let usable := min target s.ownRow.grant
    enterLive s = { s with
      line := { s.line with
        participation := .live, spoil := 0, window := .stopped, ownSilence := .running, presence := .expired
        onLine := (touchSent 1 s).line.onLine }
      tx := { s.tx with presence := true, claim := reviewClaim target s.ownRow.grant s.ownRow.want }
      journal := s.journal.add (.station s.engine.tag s.engine.clock .joined)
      share := { s.share with reviewTimer := .running, usable := usable }
      inbox := { s.inbox with
        usables := s.inbox.usables ++ if usable = s.share.usable then [] else [usable] } } := by
  intro target usable
  simp only [enterLive, shareLiveEntry, review_eq]
  rfl

/-- LISTEN is entered with the window running and the table of the own row alone. -/
theorem enterListen_eq (s : State) : enterListen s = { s with
    line := { s.line with
      participation := .listen, spoil := 0, window := .running, ownSilence := .stopped, presence := .stopped
      quiet := .stopped }
    share := { s.share with rows := ownRowOnly s.own s.ownRow.want } } := rfl

/-- Settles O56: each timer's operation by its condition, and what `enterLive` and `enterListen` answer. -/
theorem windowEndsInLiveWithAReadyTable : Obligations.WindowEndsInLiveWithAReadyTable := by
  intro s high ready entered
  have enters : entered (enterLive s) := by
    rw [enterLive_eq]
    exact ⟨rfl, rfl, rfl, rfl, rfl, rfl, rfl⟩
  refine ⟨fun listen running => ⟨fun isReady => ⟨_, ?window, enters⟩, fun unready => ?unready⟩,
    fun listen expired => ⟨fun isReady => ⟨_, ?later, enters⟩, fun unready => ?still⟩, fun live running => ?presence,
    fun fault running => ⟨_, ?quiet, congrArg State.line (enterListen_eq s), fun i => ownRowOnly_row _ _ i, rfl⟩⟩
  all_goals refine (ran_of_high _ _ high).trans (congrArg _ ?_)
  case window => exact (if_pos ⟨listen, running⟩).trans (if_pos ((ready_iff s).2 isReady))
  case unready => exact (if_pos ⟨listen, running⟩).trans (if_neg ((ready_iff s).not.2 unready))
  case later => exact if_pos ⟨listen, expired, (ready_iff s).2 isReady⟩
  case still => exact if_neg fun due => unready ((ready_iff s).1 due.2.2)
  case presence => exact if_pos ⟨live, running⟩
  case quiet => exact if_pos ⟨fault, running⟩

end Sys2Proof.Machine
end

-- ==== The end of an own frame ====
section
/-! SUPPORT. What is left in the transmit slots, and what the owner of each frame does with its verdict; O54. -/

namespace Sys2Proof.Machine

variable {s t u : State}

/-! ## The slot of the frame that ends (R171) -/

section Slots

variable (changed left taken : Bool) (s : State)

theorem slotsAfter_of_evict (mask : StationSet) : ∃ evict,
    slotsAfter ⟨.evict mask, changed, left⟩ taken s = { s.tx with evict := evict } := by
  cases changed <;> cases taken <;> exact ⟨_, rfl⟩

theorem slotsAfter_of_claim (c : ClaimFrame) : slotsAfter ⟨.claim c, changed, left⟩ taken s =
    { s.tx with claim := if changed = true then s.tx.claim else none } := by
  cases changed <;> cases taken <;> rfl

theorem slotsAfter_of_mark (m : MarkFrame) : slotsAfter ⟨.mark m, changed, left⟩ taken s =
    { s.tx with mark := if changed = true then s.tx.mark else none } := by
  cases changed <;> cases taken <;> rfl

theorem slotsAfter_of_reply (r : Reply) : slotsAfter ⟨.reply r, changed, left⟩ taken s =
    { s.tx with reply := if changed = true then s.tx.reply else none } := by
  cases changed <;> cases taken <;> rfl

/-- A PRESENCE stays in its slot until one is taken (R174). -/
theorem slotsAfter_of_presence (payload : List Byte) :
    slotsAfter ⟨.presence payload, changed, left⟩ false s = s.tx ∧
      ∃ filled, slotsAfter ⟨.presence payload, changed, left⟩ true s = { s.tx with presence := filled } := by
  cases changed <;> exact ⟨rfl, _, rfl⟩

end Slots

/-! ## The owner's part (R56, R57, R62, R65, R174, R185) -/

/-- The state with the frame off the line and the given slots, as its owner finds it. -/
def offLine (tx : TxSlots) (s : State) : State := { s with line := { s.line with onLine := none }, tx := tx }

/-- The same, for a frame that was taken (R171). -/
def offLineTaken (tx : TxSlots) (s : State) : State :=
  { s with line := { s.line with onLine := none, ownSilence := .running, spoil := 0 }, tx := tx }

theorem endOffer_taken {f : OwnFrame} {changed : Bool} (onLine : s.line.onLine = some ⟨f, changed, false⟩) :
    endOffer true s = ownerTaken ⟨f, changed, false⟩ (offLineTaken (slotsAfter ⟨f, changed, false⟩ true s) s) := by
  simp only [endOffer, onLine]
  rfl

theorem endOffer_dropped {f : LineFrame} (onLine : s.line.onLine = some f) :
    endOffer false s = ownerDropped f (offLine (slotsAfter f false s) s) := by
  simp only [endOffer, onLine]
  rfl

/-- A frame of a station that has left LIVE is dropped whatever its verdict (R175). -/
theorem endOffer_left {f : LineFrame} (onLine : s.line.onLine = some f) (left : f.left = true) :
    endOffer true s = endOffer false s := by
  simp [endOffer, onLine, left]

/-- A frame that a RESTART found on the line ends without an owner (R166). -/
theorem endOffer_finishing (taken : Bool) (free : s.line.onLine = none) :
    endOffer taken s = { s with line := { s.line with finishing := none } } := by
  simp only [endOffer, free]

/-- An EVICT at the own table: the rows it names, the mask, its slot and what is on the line (R57). -/
theorem evictLive_table (src : Station) (mask : StationSet) (s : State) :
    (∃ sent, StillSent s sent ∧ (evictLive src mask s).line = { s.line with onLine := sent }) ∧
      (evictLive src mask s).share.pendingEvict = s.share.pendingEvict &&& ~~~mask ∧
      (evictLive src mask s).tx.evict = evictFor (evictLive src mask s).share.pendingEvict ∧
      ∀ i : Station, i ≠ s.own →
        (evictLive src mask s).share.rows[i] = if mask.getLsbD i.val = true then Row.absent else s.share.rows[i] := by
  by_cases named : mask.getLsbD s.own.val = true
  · obtain ⟨sent, still, eq⟩ := evictLive_named src named
    rw [eq]
    exact ⟨⟨sent, still, rfl⟩, rfl, rfl, fun i other => by rw [set_row_ne other, evictedRows_row]; simp [other]⟩
  · obtain ⟨sent, still, eq⟩ := evictLive_spared src named
    rw [eq]
    exact ⟨⟨sent, still, rfl⟩, rfl, rfl, fun i other => by rw [evictedRows_row]; simp [other]⟩

/-- The own CLAIM taken at the own table: the grant it gives and the usable units that follow (R56, R64). -/
theorem ownClaimTaken_eq (c : ClaimFrame) (s : State) :
    let grant := grantAfterClaim s.budget (otherGrants s.share.rows s.own) c.requested s.ownRow.grant
    let usable := usableUnits grant s.tx.claim
    ownClaimTaken c s = { s with
      share := { s.share with
        rows := s.share.rows.set s.own.val { s.ownRow with grant := grant }, usable := usable }
      inbox := { s.inbox with
        usables := s.inbox.usables ++ if usable = s.share.usable then [] else [usable] } } := by
  intro grant usable
  have follows : usableUnits (setOwnGrant grant s).ownRow.grant s.tx.claim = usable := by rw [setOwnGrant_ownRow]
  have opens : ownClaimTaken c s = setUsable usable (setOwnGrant grant s) :=
    congrArg (setUsable · (setOwnGrant grant s)) follows
  rw [opens, setUsable_eq]
  rfl

theorem ownClaimTaken_ownRow (c : ClaimFrame) (s : State) : (ownClaimTaken c s).ownRow = { s.ownRow with
    grant := grantAfterClaim s.budget (otherGrants s.share.rows s.own) c.requested s.ownRow.grant } := by
  rw [ownClaimTaken_eq]
  exact setOwnGrant_ownRow _ s

theorem restartAfter_idle (replied : Bool) (idle : s.handler.restartPending = false) : restartAfter replied s = s :=
  if_neg (by simp [idle])

/-! ## Each kind of frame, taken and dropped -/

section Kinds

variable {changed left : Bool} {mask : StationSet} {c : ClaimFrame} {m : MarkFrame} {r : Reply} {payload : List Byte}

theorem evict_taken (onLine : s.line.onLine = some ⟨.evict mask, changed, false⟩) :
    ∃ evict, endOffer true s = evictLive s.own mask (offLineTaken { s.tx with evict := evict } s) := by
  obtain ⟨evict, slots⟩ := slotsAfter_of_evict changed false true s mask
  exact ⟨evict, by rw [endOffer_taken onLine, slots]; rfl⟩

theorem claim_taken (onLine : s.line.onLine = some ⟨.claim c, changed, false⟩) : endOffer true s =
    ownClaimTaken c (offLineTaken { s.tx with claim := if changed = true then s.tx.claim else none } s) := by
  rw [endOffer_taken onLine, slotsAfter_of_claim]
  rfl

theorem mark_taken (onLine : s.line.onLine = some ⟨.mark m, changed, false⟩) :
    endOffer true s = offLineTaken { s.tx with mark := if changed = true then s.tx.mark else none } s := by
  rw [endOffer_taken onLine, slotsAfter_of_mark]
  rfl

theorem reply_taken (idle : s.handler.restartPending = false)
    (onLine : s.line.onLine = some ⟨.reply r, changed, false⟩) :
    endOffer true s = offLineTaken { s.tx with reply := if changed = true then s.tx.reply else none } s := by
  rw [endOffer_taken onLine, slotsAfter_of_reply]
  exact restartAfter_idle _ idle

theorem presence_taken (onLine : s.line.onLine = some ⟨.presence payload, changed, false⟩) :
    endOffer true s = { s with
      line := { s.line with onLine := none, ownSilence := .running, spoil := 0, presence := .running }
      tx := { s.tx with presence := false } } := by
  obtain ⟨-, filled, slots⟩ := slotsAfter_of_presence changed false s payload
  rw [endOffer_taken onLine, slots]
  rfl

theorem evict_dropped (onLine : s.line.onLine = some ⟨.evict mask, changed, left⟩) :
    endOffer false s = offLine { s.tx with evict := evictFor s.share.pendingEvict } s := by
  obtain ⟨evict, slots⟩ := slotsAfter_of_evict changed left false s mask
  obtain ⟨sent, still, synced⟩ := syncEvict_eq (offLine { s.tx with evict := evict } s)
  rw [still.eq_none rfl] at synced
  rw [endOffer_dropped onLine, slots]
  exact synced

theorem claim_dropped (onLine : s.line.onLine = some ⟨.claim c, changed, left⟩) : endOffer false s =
    refreshUsable (offLine { s.tx with claim := if changed = true then s.tx.claim else none } s) := by
  rw [endOffer_dropped onLine, slotsAfter_of_claim]
  rfl

theorem mark_dropped (onLine : s.line.onLine = some ⟨.mark m, changed, left⟩) :
    endOffer false s = offLine { s.tx with mark := if changed = true then s.tx.mark else none } s := by
  rw [endOffer_dropped onLine, slotsAfter_of_mark]
  rfl

theorem reply_dropped (idle : s.handler.restartPending = false)
    (onLine : s.line.onLine = some ⟨.reply r, changed, left⟩) :
    endOffer false s = offLine { s.tx with reply := if changed = true then s.tx.reply else none } s := by
  rw [endOffer_dropped onLine, slotsAfter_of_reply]
  exact restartAfter_idle _ idle

theorem presence_dropped (onLine : s.line.onLine = some ⟨.presence payload, changed, left⟩) :
    endOffer false s = offLine s.tx s := by
  rw [endOffer_dropped onLine, (slotsAfter_of_presence changed left s payload).1]
  rfl

/-- A taken frame leaves the line, restarts the own-silence timer and clears the spoil count, whatever it was (R171). -/
theorem endOffer_taken_line {f : OwnFrame} (idle : s.handler.restartPending = false)
    (onLine : s.line.onLine = some ⟨f, changed, false⟩) :
    (endOffer true s).line.onLine = none ∧ (endOffer true s).line.ownSilence = .running ∧
      (endOffer true s).line.spoil = 0 := by
  cases f with
  | evict mask =>
    obtain ⟨evict, taken⟩ := evict_taken onLine
    obtain ⟨⟨sent, still, line⟩, -⟩ := evictLive_table s.own mask (offLineTaken { s.tx with evict := evict } s)
    rw [taken, line]
    exact ⟨still.eq_none rfl, rfl, rfl⟩
  | claim c => rw [claim_taken onLine, ownClaimTaken_eq]; exact ⟨rfl, rfl, rfl⟩
  | reply r => rw [reply_taken idle onLine]; exact ⟨rfl, rfl, rfl⟩
  | mark m => rw [mark_taken onLine]; exact ⟨rfl, rfl, rfl⟩
  | presence payload => rw [presence_taken onLine]; exact ⟨rfl, rfl, rfl⟩

end Kinds

/-- The commands that drop an own frame, with no RESTART pending (R169, R171). -/
theorem exec_drops (high : s.resetN = true) (idle : s.handler.restartPending = false) :
    ∀ c ∈ [Instr.ownFrameDropped, .echoFault], exec c s = .next (endOffer false s) := by
  have dropped : exec .ownFrameDropped s = .next (endOffer false s) := ran_of_high _ _ high
  have fault : exec .echoFault s = .next (endOffer false s) :=
    (ran_of_high _ _ high).trans (congrArg _ (whileReceiving_of_none true (endOffer false) s idle))
  simp [dropped, fault]

/-- Settles O54: the slot of the frame is emptied unless it changed, then the owner of its kind acts on the verdict. -/
theorem ownFramesEndTakenOrDropped : Obligations.OwnFramesEndTakenOrDropped := by
  intro s f changed high idle claim usable mark reply
  have usable_eq (grant : Nat) : usableUnits grant claim = usable grant := by
    simp only [usable]
    cases claim with
    | none => rfl
    | some c => exact usableUnits_some grant c
  have drops := exec_drops high idle
  refine ⟨fun onLine live => ⟨⟨endOffer true s, ran_of_high _ _ high, ?taken⟩, fun c drop => ⟨_, drops c drop, ?dropped⟩⟩,
    fun r left isReply onLine => ?changed, fun onLine => ?left,
    fun free finishing => ⟨?cells, fun c ends => ?finishing⟩⟩
  case taken =>
    obtain ⟨off, silence, spoil⟩ := endOffer_taken_line idle onLine
    refine ⟨off, silence, spoil, ?evict, ?claim, fun m isMark => ?mark, fun r isReply => ?reply,
      fun payload isPresence => ?presence⟩
    case evict =>
      rintro mask rfl
      obtain ⟨evict, taken⟩ := evict_taken onLine
      rw [taken]
      exact (evictLive_table s.own mask _).2
    case claim =>
      rintro c rfl others
      let grant := grantAfterClaim s.budget (otherGrants s.share.rows s.own) c.requested s.ownRow.grant
      have row : (endOffer true s).ownRow = { s.ownRow with grant := grant } := by
        rw [claim_taken onLine]
        exact ownClaimTaken_ownRow c (offLineTaken _ s)
      have outcome : grant = if c.requested ≤ s.ownRow.grant then c.requested
          else min c.requested (16 + 8 * s.straps.budget.val - others) := by
        simp only [grant, otherGrants_eq]
        rfl
      rw [row]
      refine ⟨outcome, rfl, ?_⟩
      rw [claim_taken onLine, ownClaimTaken_eq]
      exact ⟨rfl, usable_eq grant, fun i other => set_row_ne other _ _⟩
    case mark => subst isMark; exact mark_taken onLine
    case reply => subst isReply; exact reply_taken idle onLine
    case presence => subst isPresence; exact presence_taken onLine
  case dropped =>
    refine ⟨fun mask isEvict => ?evict, ?claim, fun m isMark => ?mark, fun r isReply => ?reply,
      fun payload isPresence => ?presence⟩
    case evict => subst isEvict; exact evict_dropped onLine
    case claim =>
      rintro c rfl
      rw [claim_dropped onLine, refreshUsable, setUsable_eq]
      exact ⟨usable_eq _, rfl⟩
    case mark => subst isMark; exact mark_dropped onLine
    case reply => subst isReply; exact reply_dropped idle onLine
    case presence => subst isPresence; exact presence_dropped onLine
  case changed =>
    subst isReply
    rw [drops _ (by simp), reply_dropped idle onLine]
    rfl
  case left =>
    exact congrArg (fun t => Host.Outcome.next (if s.resetN then t else s)) (endOffer_left onLine rfl)
  case cells => simp only [hlTxCells, high, free, finishing, if_true]; rfl
  case finishing =>
    have ended (taken : Bool) := endOffer_finishing taken free
    rcases List.mem_cons.1 ends with rfl | drop
    · exact (ran_of_high _ _ high).trans (congrArg _ (ended true))
    · exact (drops c drop).trans (congrArg _ (ended false))

end Sys2Proof.Machine
end

-- ==== What a stop, an off setting and a latched fault leave of the units ====
section
/-! SUPPORT. The heater as an off setting leaves it (R103), the stirrer as a stop leaves it (R117, R120), and a fault latched from any
state, each written out as one record (R94 to R96). -/

namespace Sys2Proof.Machine

variable {s : State}

/-! ## An off setting and a stop (R103, R117) -/

/-- The heater record after an off setting (R103). -/
def Heater.shut (h : Heater) : Heater := if h.regulating then { h.off with want := 0 } else h

theorem heaterOff_shut (s : State) : ∃ wants,
    heaterOff s = { s with heater := s.heater.shut, inbox := { s.inbox with wants := wants } } := by
  unfold heaterOff Heater.shut
  split
  · exact ⟨_, setWant_eq _ _⟩
  · exact ⟨_, rfl⟩

@[simp] theorem Heater.shut_regulating (h : Heater) : h.shut.regulating = false := by
  unfold Heater.shut
  split
  · rfl
  · next off => simpa using off

theorem Heater.shut_of_off {h : Heater} (off : h.regulating = false) : h.shut = h := by simp [Heater.shut, off]

/-- An off setting cuts the period, and the usable units stand (R103). -/
theorem Heater.shut_units (h : Heater) : h.shut.applied ≤ h.applied ∧ h.shut.usable = h.usable := by
  unfold Heater.shut
  split
  · exact ⟨Nat.zero_le _, rfl⟩
  · exact ⟨Nat.le_refl _, rfl⟩

/-- The stirrer record after a stop: level 0 taken, and the motion or the lock request ended (R117, R120, log entry 24). -/
def Stirrer.stop (t : Stirrer) : Stirrer :=
  let taken := t.take { t.setting with level := 0 } t.patternPos
  if t.state = .stopped ∨ t.state = .stopping then taken else taken.goStopping

theorem giveStop_stop (s : State) : giveStop s = { s with stirrer := s.stirrer.stop } := by
  have change (t : Stirrer) (zero : t.setting.level = 0) : t.change = t.goStopping := by simp [Stirrer.change, zero]
  have state (setting : Setting) (pos : Option PatternPos) : (s.stirrer.take setting pos).state = s.stirrer.state := rfl
  simp only [giveStop, giveSetting, Stirrer.stop]
  split
  case h_1 stopped =>
    rw [state] at stopped
    simp [stopped, actOnSetting, Stirrer.take]
  all_goals next at_state => rw [state] at at_state; simp [at_state, change, Stirrer.take]

/-- A stop keeps the rest of the setting and clears the suspended flag (R117, log entry 24). -/
theorem Stirrer.stop_fields (t : Stirrer) :
    t.stop.setting = { t.setting with level := 0 } ∧ t.stop.suspended = false ∧ t.stop.patternPos = t.patternPos := by
  simp only [Stirrer.stop]; split <;> exact ⟨rfl, rfl, rfl⟩

/-! ## A latched fault (R94 to R96) -/

/-- The journal as a fault finds it: the entry of a run under way closed FAULTED (R95, item 1). -/
def Journal.faulted (j : Journal) (e : Engine) : Journal :=
  if e.state.active then
    ⟨j.entries.map (JournalEntry.mapOpen fun entry => { entry with ending := some (e.clock, .faulted) }), j.written⟩
  else j

/-- The engine record with a fault latched: no run, no current step (R95). -/
def Engine.faulted (e : Engine) (code : FaultCode) : Engine :=
  { e.clearStep with
    state := .fault
    fault := some code
    saved := if e.state.active then none else e.saved
    causes := if e.state.active then .empty else e.causes }

theorem faultRun_of_idle (idle : s.engine.state.active = false) : faultRun s = s := by simp [faultRun, idle]

/-- A fault latched from any state, written out as one record (R95). -/
theorem latchFault_units (code : FaultCode) (s : State) : ∃ wants, latchFault code s = { s with
    engine := s.engine.faulted code
    slots := (faultRun s).slots
    heater := s.heater.shut
    stirrer := s.stirrer.stop
    scale := s.scale.noPhase
    journal := (s.journal.faulted s.engine).add (.station s.engine.tag s.engine.clock (.fault code))
    inbox := { s.inbox with wants := wants } } := by
  obtain ⟨wants, off⟩ := heaterOff_shut (faultRun s)
  refine ⟨wants, ?_⟩
  simp only [latchFault]
  rw [giveStop_stop, off]
  cases active : s.engine.state.active with
  | true => rw [faultRun_eq s active]; simp only [Engine.faulted, Journal.faulted, active, if_true]; rfl
  | false =>
    rw [faultRun_of_idle active]
    simp only [Engine.faulted, Journal.faulted, active, Bool.false_eq_true, if_false]
    rfl

theorem faultRun_slots_of_run {k : Fin 4} (active : s.engine.state.active = true) (slot : s.engine.slot = some k) :
    (faultRun s).slots[k] = { s.slots[k] with state := .ready } ∧
      ∀ j : Fin 4, j ≠ k → (faultRun s).slots[j] = s.slots[j] := by
  rw [faultRun_eq s active]
  exact returnSlot_slots slot

theorem faultRun_slots_of_none (free : s.engine.state.active = false ∨ s.engine.slot = none) :
    (faultRun s).slots = s.slots := by
  cases active : s.engine.state.active with
  | true =>
    have slot : s.engine.slot = none := free.resolve_left (by simp [active])
    rw [faultRun_eq s active]
    simp only [returnSlot, slot]
  | false => rw [faultRun_of_idle active]

/-! ## A fault report (R94 to R96) -/

/-- The state in which the engine acts on a report: the report is taken. -/
def reportTaken (r : Report) (s : State) : State :=
  { s with inbox := { s.inbox with reports := s.inbox.reports.erase r } }

/-- A report that waits is taken and acted on. -/
theorem ran_takeReport {r : Report} (high : s.resetN = true) (waits : r ∈ s.inbox.reports) (op : State → State) :
    ran (takeReport r op) s = .next (op (reportTaken r s)) := by
  rw [ran_of_high _ _ high, takeReport, if_pos waits]
  rfl

theorem faultReport_latches (healthy : s.engine.state ≠ .fault) (code : FaultCode) :
    faultReport code s = latchFault code s := if_neg healthy

theorem faultReport_again (fault : s.engine.state = .fault) (code : FaultCode) :
    faultReport code s = noteEvent (.faultAgain code) s := if_pos fault

/-- Settles O36: each of the five reports is a fault report, which latches its code or in FAULT is written again. -/
theorem faultReportLatchesOrIsWrittenAgain : Obligations.FaultReportLatchesOrIsWrittenAgain := by
  intro s high p row waits
  have answers : exec p.1 s = .next (faultReport p.2.2 (reportTaken p.2.1 s)) := by
    simp only [List.mem_cons, List.not_mem_nil, or_false] at row
    rcases row with rfl | rfl | rfl | rfl | rfl <;> exact ran_takeReport high waits _
  generalize p.2.1 = r, p.2.2 = code at answers
  refine ⟨fun healthy => ?_, fun fault => ?_⟩
  · obtain ⟨wants, latched⟩ := latchFault_units code (reportTaken r s)
    rw [faultReport_latches (s := reportTaken r s) healthy, latched] at answers
    obtain ⟨setting, suspended, -⟩ := s.stirrer.stop_fields
    obtain ⟨applied, usable⟩ := s.heater.shut_units
    exact ⟨_, answers, rfl, faultRun_slots_of_none (s := reportTaken r s),
      fun _ => faultRun_slots_of_run (s := reportTaken r s), s.heater.shut_regulating, applied, usable, setting,
      suspended, rfl, rfl, rfl⟩
  · rw [faultReport_again (s := reportTaken r s) fault] at answers
    exact answers

end Sys2Proof.Machine
end

-- ==== A hold report enters HOLD or adds its cause ====
section
/-! SUPPORT. HOLD entered from RUN, written out as one record, causes added one after the other, and what each hold report asks of
the step (R79 to R88). -/

namespace Sys2Proof.Machine

variable {s : State}

/-! ## HOLD entered and a cause added (R86 to R88) -/

/-- The journal with a HOLD entry for a cause (R161). -/
def Journal.held (j : Journal) (e : Engine) (cause : HoldCause) : Journal :=
  j.add (.station e.tag e.clock (.hold cause))

/-- The journal with the open entry's hold count risen by 1, up to 255 (R161). -/
def Journal.holdCounted (j : Journal) : Journal :=
  { j with entries := j.entries.map (JournalEntry.mapOpen fun e => { e with holds := min 255 (e.holds + 1) }) }

theorem scaleSuspend_eq (s : State) :
    scaleSuspend s = { s with scale := if curIs s StepRec.isWeigh then s.scale.suspend else s.scale } := by
  unfold scaleSuspend; split <;> rfl

/-- HOLD entered from RUN, with every unit as the entry leaves it (R86). -/
theorem enterHold_units (cause : HoldCause) (s : State) : ∃ wants, enterHold cause s = { s with
    engine := { s.engine with
      state := .hold, causes := HoldSet.empty.add cause, saved := some (saveContext cause s) }
    heater := s.heater.shut
    stirrer := s.stirrer.stop
    scale := if curIs s StepRec.isWeigh then s.scale.suspend else s.scale
    journal := (s.journal.held s.engine cause).holdCounted
    inbox := { s.inbox with wants := wants } } := by
  let held : State := { s with engine := { s.engine with
    state := .hold, causes := HoldSet.empty.add cause, saved := some (saveContext cause s) } }
  obtain ⟨wants, off⟩ := heaterOff_shut held
  refine ⟨wants, ?_⟩
  show countHold (noteEvent (.hold cause) (scaleSuspend (giveStop (heaterOff held)))) = _
  rw [scaleSuspend_eq, giveStop_stop, off]
  rfl

theorem curIs_of_step {st : StepRec} (step : curStep s = some st) (p : StepRec → Bool) : curIs s p = p st := by
  simp only [curIs, step]

/-- The weigh fields are saved in a WEIGH step alone (R87, R137). -/
theorem saveContext_weigh {st : StepRec} (step : curStep s = some st) (cause : HoldCause) :
    (saveContext cause s).weigh = if st.isWeigh then some s.scale.save else none := by
  simp only [saveContext, curIs_of_step step]

theorem raiseHold_run (run : s.engine.state = .run) (cause : HoldCause) : raiseHold cause s = enterHold cause s := by
  simp only [raiseHold, run]

theorem raiseHold_hold (hold : s.engine.state = .hold) (cause : HoldCause) : raiseHold cause s = addHold cause s := by
  simp only [raiseHold, hold]

theorem raiseHold_idle (idle : s.engine.state.active = false) (cause : HoldCause) : raiseHold cause s = s := by
  cases state : s.engine.state <;> simp_all [raiseHold, EngineState.active]

/-- A cause added in HOLD: the bowl-lifted flag is set by an open bowl, and HOLD is written for a new cause (R88). -/
theorem addHold_record (cause : HoldCause) (s : State) : addHold cause s = { s with
    engine := { s.engine with
      causes := s.engine.causes.add cause
      saved := s.engine.saved.map fun c => { c with lifted := c.lifted || decide (cause = .bowl) } }
    journal := if s.engine.causes.has cause = true then s.journal else s.journal.held s.engine cause } := by
  simp only [addHold]
  split
  · next present => rw [add_of_has present]
  · rfl

/-! ## A hold report reaches the engine (R81 to R84) -/

/-- A hold report is taken, and its cause is raised when the step suits it. -/
theorem hold_report_answers {i : Instr} {r : Report} {cause : HoldCause} {suits : State → Bool}
    (row : exec i s = ran (takeReport r (raiseWhen cause suits)) s) (high : s.resetN = true)
    (waits : r ∈ s.inbox.reports) :
    exec i s = .next (if suits (reportTaken r s) then raiseHold cause (reportTaken r s) else reportTaken r s) := by
  rw [row, ran_takeReport high waits]
  rfl

/-- The reports that hold every step: an open bowl, the lid and a stall (R81, R82). -/
def plainReports : List (Instr × Report × HoldCause) :=
  [(.bowlReport, .bowl, .bowl), (.lidReport, .lid, .lid), (.stallReport, .stall, .stall)]

/-- The reports that ask for a step they suit, each with whether this step is one (R83, R84, R138). -/
def suitedReports (s : State) (st : StepRec) : List (Instr × Report × HoldCause × Bool) :=
  [(.probeReport, .probe, .probe, s.handler.probe && st.isHoldAbove), (.scaleReport, .scale, .scale, st.isWeigh),
    (.overweight, .overweight, .scale, st.isWeigh), (.lostPower, .lostPower, .power, decide (0 < st.claimUnits))]

/-- Every hold report, each with whether this step suits it. -/
def holdReports (s : State) (st : StepRec) : List (Instr × Report × HoldCause × Bool) :=
  plainReports.map (fun p => (p.1, p.2.1, p.2.2, true)) ++ suitedReports s st

theorem plainReports_answer (high : s.resetN = true) {p : Instr × Report × HoldCause} (row : p ∈ plainReports)
    (waits : p.2.1 ∈ s.inbox.reports) : exec p.1 s = .next (raiseHold p.2.2 (reportTaken p.2.1 s)) := by
  simp only [plainReports, List.mem_cons, List.not_mem_nil, or_false] at row
  rcases row with rfl | rfl | rfl <;> exact ran_takeReport high waits _

theorem suitedReports_answer {st : StepRec} (high : s.resetN = true) (step : curStep s = some st)
    {p : Instr × Report × HoldCause × Bool} (row : p ∈ suitedReports s st) (waits : p.2.1 ∈ s.inbox.reports) :
    exec p.1 s = .next (if p.2.2.2 then raiseHold p.2.2.1 (reportTaken p.2.1 s) else reportTaken p.2.1 s) := by
  have suits (r : Report) (test : StepRec → Bool) : curIs (reportTaken r s) test = test st := curIs_of_step step test
  simp only [suitedReports, List.mem_cons, List.not_mem_nil, or_false] at row
  rcases row with rfl | rfl | rfl | rfl
  · have probe : probeSuits (reportTaken .probe s) = (s.handler.probe && st.isHoldAbove) :=
      congrArg (s.handler.probe && ·) (suits .probe StepRec.isHoldAbove)
    exact probe ▸ hold_report_answers (suits := probeSuits) rfl high waits
  · exact suits .scale StepRec.isWeigh ▸ hold_report_answers (suits := scaleSuits) rfl high waits
  · exact suits .overweight StepRec.isWeigh ▸ hold_report_answers (suits := scaleSuits) rfl high waits
  · exact suits .lostPower (fun st => decide (0 < st.claimUnits)) ▸
      hold_report_answers (suits := powerSuits) rfl high waits

theorem suitedReports_seated {st : StepRec} {p : Instr × Report × HoldCause × Bool} (row : p ∈ suitedReports s st) :
    p.2.2.1 ≠ .bowl := by
  simp only [suitedReports, List.mem_cons, List.not_mem_nil, or_false] at row
  rcases row with rfl | rfl | rfl | rfl <;> simp

theorem holdReports_answer {st : StepRec} (high : s.resetN = true) (step : curStep s = some st)
    {p : Instr × Report × HoldCause × Bool} (row : p ∈ holdReports s st) (waits : p.2.1 ∈ s.inbox.reports) :
    exec p.1 s = .next (if p.2.2.2 then raiseHold p.2.2.1 (reportTaken p.2.1 s) else reportTaken p.2.1 s) := by
  rcases List.mem_append.1 row with plain | suited
  · obtain ⟨q, listed, rfl⟩ := List.mem_map.1 plain
    exact plainReports_answer high listed waits
  · exact suitedReports_answer high step suited waits

/-- Settles O34: a hold report that suits the step is an entry to HOLD made with the report taken. -/
theorem holdReportInRunEntersHold : Obligations.HoldReportInRunEntersHold := by
  intro s st high run step p row waits
  have answers := holdReports_answer high step row waits
  generalize p.2.1 = r, p.2.2.1 = cause at answers
  refine ⟨fun suits => ?_, fun unsuited => answers.trans (congrArg _ (if_neg (ne_true_of_eq_false unsuited)))⟩
  obtain ⟨wants, held⟩ := enterHold_units cause (reportTaken r s)
  rw [if_pos suits, raiseHold_run (s := reportTaken r s) run, held] at answers
  have weigh := saveContext_weigh (s := reportTaken r s) step cause
  have scale : (if curIs (reportTaken r s) StepRec.isWeigh then s.scale.suspend else s.scale) =
      if st.isWeigh then s.scale.suspend else s.scale := by rw [curIs_of_step (s := reportTaken r s) step]
  obtain ⟨setting, -, -⟩ := s.stirrer.stop_fields
  obtain ⟨applied, -⟩ := s.heater.shut_units
  exact ⟨_, answers, rfl,
    ⟨_, rfl, rfl, rfl, rfl, rfl, rfl, rfl, rfl, rfl, rfl, rfl, rfl, rfl, rfl, rfl,
      fun weighs => weigh.trans (if_pos weighs), fun other => weigh.trans (if_neg (by simp [other]))⟩,
    s.heater.shut_regulating, applied, setting, fun weighs => scale.trans (if_pos weighs),
    fun other => scale.trans (if_neg (by simp [other])), rfl, rfl⟩

/-- A report that RUN alone acts on is only taken outside RUN and HOLD (R35, R79). -/
theorem addSatisfiedOp_idle (idle : s.engine.state.active = false) : addSatisfiedOp s = s := by
  have unrun : s.engine.state ≠ .run := fun run => by simp [run, EngineState.active] at idle
  have applies : addApplies s = false := by simp [addApplies, unrun]
  unfold addSatisfiedOp
  split
  · rfl
  · simp [applies]

theorem raiseWhen_idle (idle : s.engine.state.active = false) (cause : HoldCause) (suits : State → Bool) :
    raiseWhen cause suits s = s := by
  unfold raiseWhen
  split
  · exact raiseHold_idle idle cause
  · rfl

/-- Settles O35: in HOLD a report that suits the step adds its cause; outside RUN and HOLD a report is taken and nothing else. -/
theorem holdReportOutsideRun : Obligations.HoldReportOutsideRun := by
  intro s high
  refine ⟨fun hold p row waits => ?plain, fun st hold step p row waits => ?suited, fun idle p row waits => ?idle⟩
  case plain =>
    have answers := plainReports_answer high row waits
    rw [raiseHold_hold (s := reportTaken p.2.1 s) hold, addHold_record] at answers
    exact ⟨_, answers, hold, rfl, rfl, rfl, rfl, rfl⟩
  case suited =>
    have answers := suitedReports_answer high step row waits
    rw [raiseHold_hold (s := reportTaken p.2.1 s) hold, addHold_eq (suitedReports_seated row)] at answers
    exact ⟨fun suits => answers.trans (congrArg _ (if_pos suits)),
      fun unsuited => answers.trans (congrArg _ (if_neg (ne_true_of_eq_false unsuited)))⟩
  case idle =>
    have taken {r : Report} {op : State → State} (waits : r ∈ s.inbox.reports)
        (still : op (reportTaken r s) = reportTaken r s) : ran (takeReport r op) s = .next (reportTaken r s) :=
      (ran_takeReport high waits op).trans (congrArg _ still)
    have idle (r : Report) : (reportTaken r s).engine.state.active = false := idle
    simp only [List.mem_cons, List.not_mem_nil, or_false] at row
    rcases row with rfl | rfl | rfl | rfl | rfl | rfl | rfl | rfl
    iterate 3 exact taken waits (raiseHold_idle (idle _) _)
    iterate 4 exact taken waits (raiseWhen_idle (idle _) _ _)
    exact taken waits (addSatisfiedOp_idle (idle _))

end Sys2Proof.Machine
end

-- ==== A standing condition holds the step just entered ====
section
/-! SUPPORT. The causes of R85 as a list, and a step entered under some of them, written out as one record (R29, R85, R88). -/

namespace Sys2Proof.Machine

variable {s : State}

/-! ## The causes of R85, raised one after the other -/

/-- The causes of R85, in the order they are tested. -/
def causeList (bowl probe scale : Bool) : List HoldCause :=
  (if bowl then [.bowl] else []) ++ (if probe then [.probe] else []) ++ (if scale then [.scale] else [])

/-- The causes of R85 as a set. -/
theorem causeList_set (bowl probe scale : Bool) :
    (causeList bowl probe scale).foldl HoldSet.add .empty = ⟨false, false, bowl, false, false, probe, scale⟩ := by
  revert bowl probe scale; decide

/-- Each cause of R85 comes once, and an open bowl comes first. -/
theorem causeList_order (bowl probe scale : Bool) :
    (causeList bowl probe scale).Nodup ∧ .bowl ∉ (causeList bowl probe scale).tail ∧
      decide ((causeList bowl probe scale).head? = some .bowl) = bowl := by
  revert bowl probe scale; decide

theorem has_add (h : HoldSet) (cause other : HoldCause) :
    (h.add cause).has other = (h.has other || decide (cause = other)) := by
  cases cause <;> cases other <;> simp [HoldSet.add, HoldSet.has]

/-- Causes new to the set and other than an open bowl, added one after the other in HOLD (R88). -/
theorem raiseHold_more (more : List HoldCause) (s : State) (hold : s.engine.state = .hold) (distinct : more.Nodup)
    (seated : .bowl ∉ more) (fresh : ∀ cause ∈ more, s.engine.causes.has cause = false) :
    more.foldl (fun s cause => raiseHold cause s) s = { s with
      engine := { s.engine with causes := more.foldl HoldSet.add s.engine.causes }
      journal := more.foldl (fun j cause => j.held s.engine cause) s.journal } := by
  induction more generalizing s with
  | nil => rfl
  | cons cause more ih =>
    obtain ⟨new, distinct⟩ := List.nodup_cons.1 distinct
    obtain ⟨other, seated⟩ := List.ne_and_not_mem_of_not_mem_cons seated
    have absent : ¬s.engine.causes.has cause = true := by simp [fresh cause (List.mem_cons_self ..)]
    have added := addHold_eq (Ne.symm other) s
    rw [if_neg absent] at added
    rw [List.foldl_cons, raiseHold_hold hold, added]
    refine ih _ hold distinct seated fun later mem => ?_
    have unlike : cause ≠ later := fun same => new (same ▸ mem)
    simpa [has_add, unlike] using fresh later (List.mem_cons_of_mem _ mem)

/-- The causes of R85 as the manual words their conditions. -/
theorem standingCauses_eq (s : State) (st : StepRec) :
    standingCauses s st = causeList (!s.chan.latest.bowl)
      (st.isHoldAbove && s.handler.probe && s.chan.foodRange.present)
      (st.isWeigh && (s.chan.wgtRange.present || (hasWeight s.handler.cpk s.chan.latest.wgt &&
        decide (15000 < grams s.chan.latest.wgt s.handler.zero s.handler.cpk)))) := by
  unfold standingCauses causeList
  cases s.chan.latest.bowl <;> rfl

theorem standingCauses_order (s : State) (st : StepRec) :
    (standingCauses s st).Nodup ∧ .bowl ∉ (standingCauses s st).tail := by
  rw [standingCauses_eq]
  exact (causeList_order _ _ _).imp id And.left

theorem enterStep_curStep (st : StepRec) (s : State) : curStep (enterStep st s) = curStep s := by
  obtain ⟨_, _, _, -, -, entered⟩ := enterStep_eq st s
  rw [entered]
  rfl

/-- A step entered under standing conditions, written out as one record: the entry, HOLD with the first cause, the others added
(R29, R85, R86, R88). -/
theorem stepEntry_held {st : StepRec} {cause : HoldCause} {more : List HoldCause} (run : s.engine.state = .run)
    (step : curStep s = some st) (stands : standingCauses s st = cause :: more) :
    ∃ (t : Stirrer) (wants : List Nat) (reports : List Report) (saved : SavedContext), t.setting = st.setting ∧
      saved.lifted = decide (cause = .bowl) ∧ stepEntry s = { s with
        engine := { s.engine.enter st s.chan.latest.base with
          state := .hold, causes := (cause :: more).foldl HoldSet.add .empty, saved := some saved }
        heater := (heaterSetpoint st s).heater.shut
        stirrer := t.stop
        scale := if st.isWeigh then (scaleEnter st s).scale.suspend else (scaleEnter st s).scale
        journal := more.foldl (fun j cause => j.held s.engine cause)
          ((openEntry s).journal.held s.engine cause).holdCounted
        inbox := { s.inbox with wants := wants, reports := reports } } := by
  obtain ⟨t, entryWants, reports, setting, -, entered⟩ := enterStep_eq st s
  obtain ⟨wants, held⟩ := enterHold_units cause (enterStep st s)
  have weigh : curIs (enterStep st s) StepRec.isWeigh = st.isWeigh :=
    curIs_of_step ((enterStep_curStep st s).trans step) _
  refine ⟨t, wants, reports, saveContext cause (enterStep st s), setting, rfl, ?_⟩
  obtain ⟨distinct, seated⟩ := standingCauses_order s st
  rw [stands] at distinct seated
  obtain ⟨new, distinct⟩ := List.nodup_cons.1 distinct
  have fresh : ∀ later ∈ more, (enterHold cause (enterStep st s)).engine.causes.has later = false := by
    intro later mem
    have unlike : cause ≠ later := fun same => new (same ▸ mem)
    have none_held : HoldSet.empty.has later = false := by cases later <;> rfl
    simp [enterHold_engine, has_add, none_held, unlike]
  have running : (enterStep st s).engine.state = .run := by rw [entered]; exact run
  have stands' : standingCauses (enterStep st s) st = cause :: more := by rw [entered]; exact stands
  have raised := raiseHold_more more _ (by simp [enterHold_engine]) distinct seated fresh
  simp only [stepEntry, step, stands', List.foldl_cons]
  rw [raiseHold_run running, raised, held, weigh, entered]
  rfl

/-- The peak with which an entry is opened (R161). -/
theorem peakAfter_none (count : Nat) :
    peakAfter none count = if 300 ≤ count ∧ count ≤ 1500 then some ((count : Int) - 400) else none := by
  simp [peakAfter, tempInRange, within, quarter]

/-- Settles O30: the standing conditions are the causes of R85, and each is raised in the step just entered. -/
theorem standingConditionHoldsTheNewStep : Obligations.StandingConditionHoldsTheNewStep := by
  intro s st run step set probe gross scale cause more causes t hold counted
  have stands : standingCauses s st = causeList (!set.bowl) (decide probe) (decide scale) := by
    rw [standingCauses_eq]
    congr 1
    · simp [probe, Bool.and_assoc]
    · have weight : gross = grams set.wgt s.handler.zero s.handler.cpk := rfl
      simp [scale, weight, hasWeight, wgtInRange, within, set, Bool.and_assoc]
  have listed : causeList (!set.bowl) (decide probe) (decide scale) = cause :: more := by
    rw [← causes]
    simp [causeList]
  obtain ⟨-, -, first⟩ := causeList_order (!set.bowl) (decide probe) (decide scale)
  have all := causeList_set (!set.bowl) (decide probe) (decide scale)
  rw [listed] at first all
  obtain ⟨stirrer, wants, reports, saved, setting, lifted, held⟩ := stepEntry_held run step (stands.trans listed)
  have held : t = _ := held
  clear_value t
  subst held
  obtain ⟨level, -, -⟩ := stirrer.stop_fields
  refine ⟨rfl, Heater.shut_regulating _, level.trans (setting ▸ rfl), all, ?lifted, rfl, rfl, ?journal, ?weigh, rfl⟩
  case lifted => simpa [lifted] using first
  case journal =>
    rw [← peakAfter_none]
    rfl
  case weigh =>
    intro weighs
    obtain ⟨a, b, kind⟩ : ∃ a b, st.kind = .weigh a b := by
      cases kind : st.kind <;> simp_all [StepRec.isWeigh]
    simp only [weighs, if_true, scaleEnter_weigh kind]
    exact ⟨rfl, rfl⟩

end Sys2Proof.Machine
end

-- ==== CLEAR takes a fault away and tests the others ====
section
/-! SUPPORT. What stands when CLEAR tests the other faults, the first that stands latched and the others written again (R97). -/

namespace Sys2Proof.Machine

variable {s t : State} {src : Station} {dst : Dest}

/-! ## The standing faults one after the other (R94, R97) -/

/-- The journal with events of this engine record written one after the other. -/
def Journal.noteAll (j : Journal) (e : Engine) (events : List StationEvent) : Journal :=
  events.foldl (fun j event => j.add (.station e.tag e.clock event)) j

/-- A fault's condition is read from the channels, the mismatch set and the participation (Table 4-4). -/
theorem standing_congr (chan : t.chan = s.chan) (mismatch : t.share.mismatch = s.share.mismatch)
    (participation : t.line.participation = s.line.participation) (code : FaultCode) :
    standing t code = standing s code := by
  cases code <;> simp only [standing, chan, mismatch, participation]

/-- In FAULT the faults that stand are written again, each one (R96). -/
theorem testFaults_again (codes : List FaultCode) (s : State) (fault : s.engine.state = .fault) :
    testFaults codes s = { s with
      journal := s.journal.noteAll s.engine ((codes.filter (standing s)).map .faultAgain) } := by
  induction codes generalizing s with
  | nil => rfl
  | cons code codes ih =>
    show testFaults codes (if standing s code then faultReport code s else s) = _
    cases stands : standing s code with
    | false => simpa [stands] using ih s fault
    | true =>
      have same : standing (noteEvent (.faultAgain code) s) = standing s := funext (standing_congr rfl rfl rfl)
      have later := ih (noteEvent (.faultAgain code) s) fault
      rw [same] at later
      rw [if_pos rfl, faultReport_again fault, List.filter_cons_of_pos stands]
      exact later

/-- Outside FAULT the first fault that stands is latched, and each further one is written again (R95, R96). -/
theorem testFaults_latches {codes : List FaultCode} {code : FaultCode} {rest : List FaultCode}
    (healthy : s.engine.state ≠ .fault) (stand : codes.filter (standing s) = code :: rest) :
    testFaults codes s = { latchFault code s with
      journal := (latchFault code s).journal.noteAll (latchFault code s).engine (rest.map .faultAgain) } := by
  induction codes with
  | nil => simp at stand
  | cons first codes ih =>
    show testFaults codes (if standing s first then faultReport first s else s) = _
    cases stands : standing s first with
    | false => exact ih (by rwa [List.filter_cons_of_neg (by simp [stands])] at stand)
    | true =>
      rw [List.filter_cons_of_pos stands] at stand
      obtain ⟨rfl, rfl⟩ := List.cons.inj stand
      have same : standing (latchFault first s) = standing s :=
        funext (standing_congr (by simp) (by simp) (by simp))
      rw [if_pos rfl, faultReport_latches healthy, testFaults_again _ _ (latchFault_engine first s).1, same]

/-- Where no fault stands the test does nothing. -/
theorem testFaults_none {codes : List FaultCode} (stand : codes.filter (standing s) = []) : testFaults codes s = s := by
  induction codes with
  | nil => rfl
  | cons code codes ih =>
    obtain ⟨quiet, later⟩ : standing s code = false ∧ codes.filter (standing s) = [] := by
      cases stands : standing s code <;> simp_all
    show testFaults codes (if standing s code then faultReport code s else s) = s
    rw [quiet]
    exact ih later

/-! ## CLEAR (R97, Table 4-5) -/

theorem standing_noted (src : Station) (s : State) : standing (noted src s) = standing s :=
  funext (standing_congr (by simp) (by simp) (by simp))

/-- Table 4-5, as the manual words it. -/
theorem clearable_iff (s : State) (code : FaultCode) : clearable s code = true ↔
    code ≠ .config ∧ code ≠ .barred ∧ (code = .overtemp → 300 ≤ s.chan.latest.base ∧ s.chan.latest.base ≤ 1199) ∧
      (code = .sensor → s.chan.baseRange.present = false) ∧
      (code = .lidSense → s.chan.latest.lid = true ∨ s.chan.latest.lock = false) := by
  cases code <;> simp [clearable, within, lidContradiction]

/-- The state in which CLEAR tests the other faults: IDLE, CLEARED written (R97). -/
def faultCleared (s : State) : State :=
  noteEvent .cleared { s with engine := { s.engine with fault := none, state := .idle } }

theorem clearFault_eq (code : FaultCode) (s : State) :
    clearFault code s = testFaults (allFaults.filter (· ≠ code)) (faultCleared s) := rfl

theorem clearAct_fault {code : FaultCode} (fault : s.engine.state = .fault) (latched : s.engine.fault = some code) :
    clearAct s = if clearable s code then (.done, clearFault code s) else (.faultPersists, s) := by
  simp only [clearAct, fault, latched]

theorem clearAct_refused (healthy : s.engine.state ≠ .fault) : clearAct s = (.refusedState, s) := by
  cases state : s.engine.state <;> simp_all [clearAct]

/-- The faults that CLEAR finds standing, in the order of Table 4-4. -/
theorem standing_left (code : FaultCode) (src : Station) (s : State) :
    (allFaults.filter (· ≠ code)).filter (standing (faultCleared (noted src s))) =
      allFaults.filter fun c => c ≠ code && standing s c := by
  have same : standing (faultCleared (noted src s)) = standing s :=
    (funext (standing_congr rfl rfl rfl)).trans (standing_noted src s)
  rw [same, List.filter_filter]
  exact List.filter_congr fun c _ => Bool.and_comm ..

/-- A fault that still stands after CLEAR is latched in IDLE (R95, R97). -/
theorem clearFault_latches {code first : FaultCode} {rest : List FaultCode}
    (stand : (allFaults.filter (· ≠ code)).filter (standing (faultCleared s)) = first :: rest) :
    ∃ wants, clearFault code s = { s with
      engine := { s.engine.clearStep with state := .fault, fault := some first }
      heater := s.heater.shut
      stirrer := s.stirrer.stop
      scale := s.scale.noPhase
      journal := s.journal.noteAll s.engine (.cleared :: .fault first :: rest.map .faultAgain)
      inbox := { s.inbox with wants := wants } } := by
  obtain ⟨wants, latched⟩ := latchFault_units first (faultCleared s)
  refine ⟨wants, ?_⟩
  have idle : (faultCleared s).engine.state = .idle := rfl
  rw [clearFault_eq, testFaults_latches (by simp [idle]) stand, latched, faultRun_of_idle (by simp [idle, EngineState.active])]
  rfl

/-- Settles O44: a CLEAR that Table 4-5 takes leads to IDLE, where the faults that still stand are latched or written again. -/
theorem clearTestsTheOtherFaults : Obligations.ClearTestsTheOtherFaults := by
  intro src dst s panel n
  have engine : n.engine = s.engine := by simp [n]
  have chan : n.chan = s.chan := by simp [n]
  refine ⟨fun healthy => ran_takeCommand panel _ (clearAct_refused (s := n) (engine ▸ healthy)), fun code fault latched => ?_⟩
  have acts := clearAct_fault (s := n) (engine ▸ fault) (engine ▸ latched)
  have table := clearable_iff n code
  rw [chan] at table
  refine ⟨fun unmet => ran_takeCommand panel _ (acts.trans (if_neg (table.not.2 unmet))),
    fun met => ⟨_, ran_takeCommand panel _ (acts.trans (if_pos (table.2 met))), fun left => ?cleared,
      fun first rest left => ?latched⟩⟩
  case cleared =>
    rw [clearFault_eq, testFaults_none ((standing_left code src s).trans left)]
    simp [faultCleared, noteEvent, n]
  case latched =>
    obtain ⟨wants, cleared⟩ := clearFault_latches (s := n) ((standing_left code src s).trans left)
    have units : n.heater = s.heater ∧ n.stirrer = s.stirrer ∧ n.scale = s.scale ∧ n.journal = s.journal := by simp [n]
    obtain ⟨heater, stirrer, scale, journal⟩ := units
    rw [engine, heater, stirrer, scale, journal] at cleared
    have stop : s.stirrer.stop = (giveStop s).stirrer := by rw [giveStop_stop]
    obtain ⟨setting, -, -⟩ := s.stirrer.stop_fields
    rw [cleared]
    exact ⟨rfl, s.heater.shut_regulating, Heater.shut_of_off, stop, setting, rfl, rfl, rfl⟩

end Sys2Proof.Machine
end

-- ==== RESUME restores the saved step ====
section
/-! SUPPORT. The conditions of a RESUME, and what it hands heater, stirrer and scale of the saved context (R89 to R91, R111, R137). -/

namespace Sys2Proof.Machine

variable {s : State} {src : Station} {dst : Dest}

/-! ## The heater as a RESUME leaves it (R105, R107, R111) -/

/-- The units of the present period alone are computed anew (R105). -/
theorem Heater.recompute_units (h : Heater) (rating count : Nat) :
    h.recompute rating count = { h with
      applied := (h.recompute rating count).applied, onSlots := (h.recompute rating count).onSlots } := by
  unfold Heater.recompute; split <;> rfl

theorem Heater.recompute_of_idle {h : Heater} (idle : h.cut = true ∨ h.periodRunning = false) (rating count : Nat) :
    h.recompute rating count = h := by
  simp [Heater.recompute, idle]

theorem Heater.recompute_of_running {h : Heater} (uncut : h.cut = false) (runs : h.periodRunning = true)
    (rating count : Nat) : h.recompute rating count = h.compute rating count := by
  simp [Heater.recompute, uncut, runs]

/-- The heater record that a RESUME leaves (R111). -/
def Heater.handBack (h : Heater) (st : StepRec) (saved : SavedContext) (rating count : Nat) : Heater :=
  { (h.resumed st saved).recompute rating count with want := (h.resumed st saved).wantNow }

theorem heaterResume_eq (st : StepRec) (saved : SavedContext) (s : State) :
    ∃ wants, heaterResume st saved s = { s with
      heater := s.heater.handBack st saved s.rating s.chan.latest.base, inbox := { s.inbox with wants := wants } } := by
  simp only [heaterResume]
  exact ⟨_, setWant_eq _ _⟩

/-- All but the units of the period and the want is as item 1 of R111 hands it over. -/
theorem Heater.handBack_eq (h : Heater) (st : StepRec) (saved : SavedContext) (rating count : Nat) :
    h.handBack st saved rating count = { h.resumed st saved with
      applied := (h.handBack st saved rating count).applied
      onSlots := (h.handBack st saved rating count).onSlots
      want := (h.resumed st saved).wantNow } := by
  unfold Heater.handBack
  rw [Heater.recompute_units]

/-- The want of the restored economy state (R108, R111). -/
theorem Heater.resumed_want (h : Heater) (st : StepRec) (saved : SavedContext) :
    (h.resumed st saved).wantNow =
      if st.target = 0 then 0 else if saved.economy = .full then st.claimUnits else st.holdUnits := by
  cases economy : saved.economy <;> simp only [Heater.wantNow, Heater.resumed, economy] <;> rfl

/-- A cut period stays cut, and before the first boundary there is none (R105, log entry 13). -/
theorem Heater.handBack_of_idle {h : Heater} (idle : h.cut = true ∨ h.periodRunning = false) (st : StepRec)
    (saved : SavedContext) (rating count : Nat) :
    (h.handBack st saved rating count).applied = h.applied ∧ (h.handBack st saved rating count).onSlots = h.onSlots := by
  unfold Heater.handBack
  rw [Heater.recompute_of_idle (h := h.resumed st saved) idle]
  exact ⟨rfl, rfl⟩

/-- A running period takes its units and on-slots anew (R105, R107, log entry 35). -/
theorem Heater.handBack_of_running {h : Heater} (uncut : h.cut = false) (runs : h.periodRunning = true) (st : StepRec)
    (saved : SavedContext) (rating count : Nat) :
    (h.handBack st saved rating count).applied =
        (if st.claimUnits = 0 then 0 else min (demand rating st.target saved.targetNow count) h.usable) ∧
      (h.handBack st saved rating count).onSlots =
        onSlotsOf rating (h.handBack st saved rating count).applied := by
  unfold Heater.handBack
  rw [Heater.recompute_of_running (h := h.resumed st saved) uncut runs]
  exact ⟨rfl, rfl⟩

/-! ## The scale as a RESUME leaves it (R137) -/

/-- The scale record that a RESUME leaves: no phase outside a WEIGH step, else the saved one taken up (R90, item 4). -/
def Scale.handBack (c : Scale) (saved : SavedContext) : Scale :=
  match saved.weigh with
  | none => c.noPhase
  | some w => c.resume w saved.lifted

theorem scaleResume_eq (saved : SavedContext) (s : State) :
    scaleResume saved s = { s with scale := s.scale.handBack saved } := by
  cases weigh : saved.weigh <;> simp only [scaleResume, Scale.handBack, weigh]

theorem Scale.handBack_none {saved : SavedContext} (weigh : saved.weigh = none) (c : Scale) :
    c.handBack saved = c.noPhase := by
  simp only [Scale.handBack, weigh]

theorem Scale.handBack_some {saved : SavedContext} {w : SavedWeigh} (weigh : saved.weigh = some w) (c : Scale) :
    c.handBack saved = c.resume w saved.lifted := by
  simp only [Scale.handBack, weigh]

theorem Scale.resume_fields (c : Scale) (w : SavedWeigh) (lifted : Bool) :
    (c.resume w lifted).suspended = false ∧ (c.resume w lifted).reference = w.reference := by
  simp only [Scale.resume]
  split
  · exact ⟨rfl, rfl⟩
  · exact ⟨rfl, rfl⟩
  · split <;> exact ⟨rfl, rfl⟩

theorem Scale.resume_settle {w : SavedWeigh} (settle : w.phase = .settle) (c : Scale) (lifted : Bool) :
    (c.resume w lifted).phase = .settle ∧ (c.resume w lifted).reReference = none := by
  simp [Scale.resume, settle]

/-- ADD goes on where the bowl was not lifted and no re-reference was under way (R137). -/
theorem Scale.resume_add {w : SavedWeigh} {c : Scale} (add : w.phase = .add) (plain : c.reReference = none) :
    (c.resume w false).phase = .add ∧ (c.resume w false).added = w.added := by
  simp [Scale.resume, add, plain]

/-- ADD goes back to SETTLE for a reference that restores the added weight (R137). -/
theorem Scale.resume_reReference {w : SavedWeigh} {c : Scale} {lifted : Bool} (add : w.phase = .add)
    (moved : lifted = true ∨ c.reReference ≠ none) :
    (c.resume w lifted).phase = .settle ∧ (c.resume w lifted).reReference = w.added := by
  have again : (lifted || c.reReference.isSome) = true := by
    simpa [Option.isSome_iff_ne_none] using moved
  simp only [Scale.resume, add, again, if_true, and_self]

/-! ## RESUME (R89 to R91) -/

/-- A RESUME whose conditions are met, written out as one record (R90). -/
theorem resumeStep_eq (st : StepRec) (saved : SavedContext) (s : State) :
    ∃ t wants reports, t.setting = st.setting ∧ t.patternPos = saved.patternPos ∧
      resumeStep st saved s = { s with
        engine := s.engine.restore saved
        heater := s.heater.handBack st saved s.rating s.chan.latest.base
        stirrer := t
        scale := s.scale.handBack saved
        journal := s.journal.add (.station s.engine.tag s.engine.clock .resumed)
        inbox := { s.inbox with wants := wants, reports := reports } } := by
  let restored : State := { s with engine := s.engine.restore saved }
  obtain ⟨wants, heated⟩ := heaterResume_eq st saved restored
  obtain ⟨t, reports, setting, pos, given⟩ := giveSetting_eq st.setting saved.patternPos (heaterResume st saved restored)
  refine ⟨t, wants, reports, setting, pos, ?_⟩
  show noteEvent .resumed (scaleResume saved (giveSetting st.setting saved.patternPos (heaterResume st saved restored))) = _
  rw [scaleResume_eq, given, heated]
  rfl

/-- The conditions of Table 4-3 in LIVE, as the manual words them. -/
theorem resumeMet_iff (live : s.line.participation = .live) (st : StepRec) : resumeMet s st = true ↔
    s.chan.latest.bowl = true ∧ (st.setting.level < 5 ∨ s.chan.latest.lid = true) ∧
      (s.engine.causes.probe = false ∨ s.chan.foodRange.present = false) ∧
      (s.engine.causes.scale = false ∨ s.chan.wgtRange.present = false ∧ overweight s.scale.latestGross = false) := by
  simp [resumeMet, live, and_assoc]

theorem resumeAct_refused (other : s.engine.state ≠ .hold) : resumeAct s = (.refusedState, s) := by
  simp only [resumeAct, other, if_false]

theorem resumeAct_hold {st : StepRec} {saved : SavedContext} (hold : s.engine.state = .hold)
    (step : curStep s = some st) (context : s.engine.saved = some saved) :
    resumeAct s = if resumeMet s st then (.done, resumeStep st saved s) else (.holdPersists, s) := by
  simp only [resumeAct, hold, step, context, if_true]

/-- Settles O42: in HOLD the conditions of Table 4-3 decide, and a RESUME they let pass hands each unit its part of the saved
context. -/
theorem resumeRestoresTheSavedStep : Obligations.ResumeRestoresTheSavedStep := by
  intro src dst s panel n
  have engine : n.engine = s.engine := by simp [n]
  have chan : n.chan = s.chan := by simp [n]
  have units : n.heater = s.heater ∧ n.scale = s.scale ∧ n.journal = s.journal ∧ n.rating = s.rating := by
    simp [n, noted_rating]
  obtain ⟨heater, scale, journal, rating⟩ := units
  refine ⟨fun other => ran_takeCommand panel _ (resumeAct_refused (s := n) (engine ▸ other)),
    fun st c hold step context => ?_⟩
  have acts := resumeAct_hold (s := n) (engine ▸ hold) ((noted_curStep src s).trans step) (engine ▸ context)
  have live : n.line.participation = .live := (noted_participation src s).trans panel.1.2.1
  have table := resumeMet_iff live st
  rw [chan, engine, scale] at table
  refine ⟨fun unmet => ran_takeCommand panel _ (acts.trans (if_neg (table.not.2 unmet))), fun met => ?_⟩
  have answers := ran_takeCommand panel _ (acts.trans (if_pos (table.2 met)))
  obtain ⟨t, wants, reports, setting, pos, resumed⟩ := resumeStep_eq st c n
  have count : n.chan.latest.base = s.chan.latest.base := by rw [chan]
  rw [engine, heater, scale, journal, rating, count] at resumed
  rw [resumed] at answers
  have handed := s.heater.handBack_eq st c s.rating s.chan.latest.base
  have field {α : Type} (f : Heater → α) := congrArg f handed
  refine ⟨_, answers, rfl, field Heater.regulating, field Heater.target, field Heater.ramp, field Heater.claimUnits,
    field Heater.holdUnits, field Heater.approach, field Heater.targetNow, field Heater.economy, field Heater.economyCount,
    field Heater.entrySample, fun b e ramp => ⟨?base, ?elapsed⟩, fun flat => ?flat,
    (field Heater.want).trans (s.heater.resumed_want st c), field Heater.cut, field Heater.slotPos, field Heater.usable,
    field Heater.overTemp, field Heater.periodRunning, fun idle => Heater.handBack_of_idle idle st c _ _,
    fun uncut runs => Heater.handBack_of_running uncut runs st c _ _, setting, pos, fun none_saved => ?none, fun w weigh => ?weigh,
    rfl, rfl⟩
  case base => exact (field Heater.rampBase).trans (by simp [Heater.resumed, ramp])
  case elapsed => exact (field Heater.elapsed).trans (by simp [Heater.resumed, ramp])
  case flat => exact (field Heater.rampBase).trans (by simp [Heater.resumed, flat])
  case none => simp only [Scale.handBack_none none_saved]; rfl
  case weigh =>
    obtain ⟨active, reference⟩ := s.scale.resume_fields w c.lifted
    simp only [Scale.handBack_some weigh]
    exact ⟨active, reference, fun settle => Scale.resume_settle settle _ _,
      fun add kept plain => kept ▸ Scale.resume_add add plain, fun add moved => Scale.resume_reReference add moved⟩

end Sys2Proof.Machine
end

-- ==== The law of the regulator, and what a setpoint hands the heater ====
section
/-! SUPPORT. The demand and the on-slots (R105), the heater record as a step entry's setpoint and as an off setting leave it (R100 to
R103). -/

namespace Sys2Proof.Machine

/-! ## The demand and the on-slots (R105) -/

/-- The rule's four reasons to apply no heat. -/
theorem demand_eq_zero {target targetNow count : Nat}
    (cold : target = 0 ∨ count < 300 ∨ 1500 < count ∨ (targetNow : Int) ≤ (count : Int) - 400) (rating : Nat) :
    demand rating target targetNow count = 0 := by
  refine if_pos ?_
  have outside : (!tempInRange count) = true ↔ count < 300 ∨ 1500 < count := by
    rw [Bool.not_eq_true', ← Bool.not_eq_true, tempInRange_iff]; omega
  rw [outside, quarter]
  tauto

/-- Above 0 °C below target-now the demand is proportional, rounded up and held at the rating. -/
theorem demand_of_below {target targetNow count d : Nat} (heats : target ≠ 0) (low : 300 ≤ count) (high : count ≤ 1500)
    (below : (targetNow : Int) = (count : Int) - 400 + d) (positive : 0 < d) (rating : Nat) :
    demand rating target targetNow count = min rating ((rating * d + 31) / 32) := by
  have inRange : tempInRange count = true := (tempInRange_iff count).2 ⟨low, high⟩
  have under : ¬(targetNow : Int) ≤ quarter count := by unfold quarter; omega
  have difference : ((targetNow : Int) - quarter count).toNat = d := by unfold quarter; omega
  simp [demand, heats, inRange, under, difference]

/-- From 8 °C below target-now on the demand is the rating. -/
theorem min_rating_of_wide {rating d : Nat} (wide : 32 ≤ d) : min rating ((rating * d + 31) / 32) = rating := by
  have : rating * 32 ≤ rating * d := Nat.mul_le_mul_left _ wide
  omega

/-- Within the last 8 °C the demand is the proportion, rounded up. -/
theorem min_rating_of_narrow {rating d : Nat} (narrow : d < 32) :
    rating * d ≤ 32 * min rating ((rating * d + 31) / 32) ∧ 32 * min rating ((rating * d + 31) / 32) < rating * d + 32 := by
  have : rating * d ≤ rating * 31 := Nat.mul_le_mul_left _ (by omega)
  omega

/-- The on-slots are the whole number nearest to 25 times the applied units over the rating. -/
theorem onSlotsOf_nearest {rating : Nat} (positive : 0 < rating) (applied : Nat) :
    2 * rating * onSlotsOf rating applied ≤ 50 * applied + rating ∧
      50 * applied + rating < 2 * rating * (onSlotsOf rating applied + 1) :=
  ⟨Nat.mul_div_le _ _, Nat.lt_mul_div_succ _ (by omega)⟩

/-- Settles O13: the proportion below target-now, held at the rating outside the band of 8 °C, and a rounded division. -/
theorem demandAndOnSlotsFollowTheLaw : Obligations.DemandAndOnSlotsFollowTheLaw := by
  intro rating target targetNow count
  refine ⟨fun cold => demand_eq_zero cold rating, fun heats low high d below => ⟨fun wide => ?_, fun narrow => ?_⟩,
    onSlotsOf_nearest⟩
  · rw [demand_of_below heats low high below (by omega)]
    exact min_rating_of_wide wide
  · rcases Nat.eq_zero_or_pos d with rfl | positive
    · rw [demand_eq_zero (by omega)]
      simp
    · rw [demand_of_below heats low high below positive]
      exact min_rating_of_narrow narrow

/-! ## The approach, the ramp base and target-now of a step (R101, R102) -/

theorem approachOf_eq (target count : Nat) :
    approachOf target count = if target = 0 then none
      else if 300 ≤ count ∧ count ≤ 1500 ∧ 4 * (target : Int) ≤ (count : Int) - 400 then some .cooling
      else some .heating := by
  have cools : (300 ≤ count ∧ count ≤ 1500 ∧ 4 * (target : Int) ≤ (count : Int) - 400) ↔
      ¬(!tempInRange count || decide (quarter count < 4 * (target : Int))) = true := by
    rw [Bool.or_eq_true, not_or, Bool.not_eq_true', Bool.not_eq_false, decide_eq_true_eq, tempInRange_iff, quarter,
      Int.not_lt, and_assoc]
  simp only [approachOf, cools, ite_not]

theorem rampBaseOf_eq (target ramp count : Nat) :
    rampBaseOf target ramp count = if approachOf target count = some .heating ∧ ramp ≠ 0 then
      some (if 300 ≤ count ∧ count ≤ 1500 then count - 400 else 0) else none := by
  have base : (quarter count).toNat = count - 400 := by unfold quarter; omega
  simp only [rampBaseOf, tempInRange_iff, base]

theorem rampedTarget_entry (target ramp b : Nat) : rampedTarget target ramp 0 (some b) = min b (4 * target) := by
  simp [rampedTarget]

/-! ## A step entry's setpoint (R100, R108) -/

theorem Heater.enter_want (h : Heater) (st : StepRec) (set : SampleSet) :
    (h.enter st set).wantNow = if st.target = 0 then 0 else st.claimUnits := rfl

/-- The setpoint, the recompute of a running period and the want, written out as one record. -/
theorem heaterSetpoint_entered (st : StepRec) (s : State) :
    let entered := s.heater.enter st s.chan.latest
    let want := if st.target = 0 then 0 else st.claimUnits
    heaterSetpoint st s = { s with
      heater := { entered.recompute s.rating s.chan.latest.base with want := want }
      inbox := { s.inbox with wants := s.inbox.wants ++ if want = s.heater.want then [] else [want] } } := by
  intro entered want
  have before : (entered.recompute s.rating s.chan.latest.base).want = s.heater.want := by
    rw [Heater.recompute_units]; rfl
  simp only [heaterSetpoint, setWant_eq, Heater.enter_want]
  rw [before]

/-- All but the units of the period and the want is as R100 items 1 to 3 and 5 set it. -/
theorem heaterSetpoint_heater (st : StepRec) (s : State) :
    (heaterSetpoint st s).heater = { s.heater.enter st s.chan.latest with
      applied := (heaterSetpoint st s).heater.applied
      onSlots := (heaterSetpoint st s).heater.onSlots
      want := if st.target = 0 then 0 else st.claimUnits } := by
  rw [heaterSetpoint_entered, Heater.recompute_units]

/-- A cut period stays cut, and before the first boundary there is none (R105, log entry 13). -/
theorem heaterSetpoint_of_idle {s : State} (idle : s.heater.cut = true ∨ s.heater.periodRunning = false) (st : StepRec) :
    (heaterSetpoint st s).heater.applied = s.heater.applied ∧ (heaterSetpoint st s).heater.onSlots = s.heater.onSlots := by
  rw [heaterSetpoint_entered, Heater.recompute_of_idle (h := s.heater.enter st _) idle]
  exact ⟨rfl, rfl⟩

/-- A running period takes its units and on-slots anew (R105, R107, log entry 35). -/
theorem heaterSetpoint_of_running {s : State} (uncut : s.heater.cut = false) (runs : s.heater.periodRunning = true)
    (st : StepRec) :
    (heaterSetpoint st s).heater.applied = (if st.claimUnits = 0 then 0
        else min (demand s.rating st.target (heaterSetpoint st s).heater.targetNow s.chan.latest.base) s.heater.usable) ∧
      (heaterSetpoint st s).heater.onSlots = onSlotsOf s.rating (heaterSetpoint st s).heater.applied := by
  rw [heaterSetpoint_entered, Heater.recompute_of_running (h := s.heater.enter st _) uncut runs]
  exact ⟨rfl, rfl⟩

/-! ## The heater gate (R106) -/

theorem heatGate_iff {s : State} (high : s.resetN = true) :
    heatGate s = true ↔ s.heater.regulating = true ∧ s.heater.cut = false ∧ s.pins.bowlSeated = true ∧
      s.heater.slotPos < s.heater.onSlots := by
  simp [heatGate, high, and_assoc]

/-- A cut takes the gate low (R107). -/
theorem heatGate_of_cut {s : State} (cut : s.heater.cut = true) : heatGate s = false := by
  simp [heatGate, cut]

/-! ## An off setting (R103) -/

/-- An off setting to a REGULATING heater, written out as one record. -/
theorem heaterOff_of_regulating {s : State} (regulating : s.heater.regulating = true) :
    heaterOff s = { s with
      heater := { s.heater.off with want := 0 }
      inbox := { s.inbox with wants := s.inbox.wants ++ if 0 < s.heater.want then [0] else [] } } := by
  have wanted : (0 = s.heater.off.want) ↔ ¬0 < s.heater.want := by
    show 0 = s.heater.want ↔ _
    omega
  simp only [heaterOff, regulating, if_true, setWant_eq, wanted, ite_not]

theorem heaterOff_of_off {s : State} (off : s.heater.regulating = false) : heaterOff s = s := by
  simp [heaterOff, off]

/-- Settles O10: a setpoint sets all but the units of the period and the want as a step entry's record does, and an off setting
cuts the period of a REGULATING heater. -/
theorem setpointAndOffSettingSetTheHeater : Obligations.SetpointAndOffSettingSetTheHeater := by
  constructor
  case left =>
    intro st s t count
    have field {α : Type} (f : Heater → α) := congrArg f (heaterSetpoint_heater st s)
    have approach : t.heater.approach = approachOf st.target count := field Heater.approach
    have base : t.heater.rampBase = rampBaseOf st.target st.ramp count := field Heater.rampBase
    have now : t.heater.targetNow = rampedTarget st.target st.ramp 0 t.heater.rampBase :=
      base ▸ field Heater.targetNow
    have want : t.heater.want = if st.target = 0 then 0 else st.claimUnits := field Heater.want
    refine ⟨field Heater.regulating, field Heater.target, field Heater.ramp, field Heater.claimUnits, field Heater.holdUnits,
      approach.trans (approachOf_eq _ _), ?base, fun flat => ?flat, fun b ramps => ?ramps, field Heater.elapsed,
      field Heater.economy, field Heater.economyCount, field Heater.entrySample, field Heater.usable, want, ?wants,
      field Heater.cut, field Heater.slotPos, field Heater.overTemp, field Heater.periodRunning,
      fun idle => heaterSetpoint_of_idle idle st, fun uncut runs => heaterSetpoint_of_running uncut runs st, ?frame⟩
    case base => rw [base, approach, rampBaseOf_eq]
    case flat => rw [now, flat]; rfl
    case ramps => rw [now, ramps, rampedTarget_entry]
    case wants => rw [want]; exact congrArg (·.inbox.wants) (heaterSetpoint_entered st s)
    case frame =>
      have entered := heaterSetpoint_entered st s
      simp only [t, entered]
  case right =>
    intro s t
    refine ⟨heaterOff_of_off, fun regulating => ?_⟩
    have shut : t = _ := heaterOff_of_regulating regulating
    rw [shut]
    exact ⟨rfl, rfl, rfl, rfl, rfl, rfl, rfl, rfl, rfl, rfl, rfl, rfl, rfl, rfl, rfl, heatGate_of_cut rfl, rfl, rfl, rfl, rfl,
      rfl⟩

end Sys2Proof.Machine
end

-- ==== Cuts and slots, and the economy state at a second boundary ====
section
/-! SUPPORT. The heater's sample set off a second boundary (R104, R112), the economy state, its count and the want at one (R108 to
R110), and the cuts and slots within a period (R106, R107). -/

namespace Sys2Proof.Machine

variable {s : State} {set : SampleSet} {rest : List SampleSet}

/-! ## The oldest sample set at the heater (R104) -/

/-- The heater takes the oldest set out of the inbox. -/
theorem takeHeaterSet_cons (queued : s.inbox.heater = set :: rest) (op : SampleSet → State → State) :
    takeHeaterSet op s = op set { s with inbox := { s.inbox with heater := rest } } := by
  simp only [takeHeaterSet, queued]

theorem exec_heaterSampleSet (high : s.resetN = true) (queued : s.inbox.heater = set :: rest) :
    exec .heaterSampleSet s = .next (heaterSetOp set { s with inbox := { s.inbox with heater := rest } }) := by
  rw [← takeHeaterSet_cons queued heaterSetOp]
  exact ran_of_high _ _ high

/-- The row ECONOMY is the heater's sample set when that brings the count to 30 (log entry 3). -/
theorem exec_economy (high : s.resetN = true) (queued : s.inbox.heater = set :: rest)
    (due : economyDue s.heater set = true) : exec .economy s = exec .heaterSampleSet s := by
  rw [exec_heaterSampleSet high queued, ← takeHeaterSet_cons queued heaterSetOp]
  show execEconomy s = _
  rw [execEconomy, ran_of_high _ _ high]
  simp only [queued, due, if_true]

/-! ## The over-temperature test alone (R112) -/

theorem heaterSetOp_between (boundary : set.boundary = false) (s : State) : heaterSetOp set s = overTempTest set s := by
  simp [heaterSetOp, boundary]

theorem Heater.tested_hot {count : Nat} (hot : 1320 ≤ count) (h : Heater) :
    h.tested count = { h with cut := true, applied := 0, onSlots := 0, overTemp := true } := if_pos hot

theorem Heater.tested_cool {count : Nat} (cool : count < 1320) (h : Heater) :
    h.tested count = { h with overTemp := false } := if_neg (Nat.not_le.2 cool)

/-- Settles O11: off a second boundary the heater's operation is the over-temperature test. -/
theorem overtemperatureTestBetweenBoundaries : Obligations.OvertemperatureTestBetweenBoundaries := by
  intro s set rest high queued boundary
  have answers := exec_heaterSampleSet high queued
  rw [heaterSetOp_between boundary, overTempTest_eq] at answers
  refine ⟨_, answers, fun hot => ?_, fun cool => ?_, rfl⟩
  · have record := s.heater.tested_hot hot
    refine ⟨record, heatGate_of_cut (congrArg Heater.cut record), ?_⟩
    cases flag : s.heater.overTemp <;> simp [hot]
  · exact ⟨s.heater.tested_cool cool, by simp [Nat.not_le.2 cool]⟩

/-! ## The economy state after a counted second (R109, R110) -/

theorem nearTarget_iff {count : Nat} (low : 300 ≤ count) (high : count ≤ 1500) (target : Nat) :
    nearTarget target count = true ↔ 4 * (target : Int) - 4 ≤ (count : Int) - 400 := by
  rw [nearTarget, (tempInRange_iff count).2 ⟨low, high⟩, Bool.true_and, decide_eq_true_iff, quarter]

theorem belowBand_iff {count : Nat} (low : 300 ≤ count) (high : count ≤ 1500) (target : Nat) :
    belowBand target count = true ↔ (count : Int) - 400 < 4 * (target : Int) - 16 := by
  rw [belowBand, (tempInRange_iff count).2 ⟨low, high⟩, Bool.true_and, decide_eq_true_iff, quarter]

/-- A heater in FULL, on a step with a target and fewer hold units than claim units, counts the seconds near the target. -/
theorem Heater.economySecond_full {h : Heater} (full : h.economy = .full) (heats : h.target ≠ 0)
    (saves : h.holdUnits < h.claimUnits) (count : Nat) :
    h.economySecond count =
      if nearTarget h.target count then
        if 29 ≤ h.economyCount then { h with economy := .economy, economyCount := 0 }
        else { h with economyCount := h.economyCount + 1 }
      else { h with economyCount := 0 } := by
  simp only [Heater.economySecond, full]
  exact if_pos ⟨heats, saves⟩

theorem Heater.economySecond_economy {h : Heater} (economy : h.economy = .economy) (count : Nat) :
    h.economySecond count =
      if belowBand h.target count then { h with economy := .full, economyCount := 0 } else h := by
  simp only [Heater.economySecond, economy]

/-- The fields of a heater record that decide its economy state and its want (R108 to R110). -/
structure SameEconomy (h h' : Heater) : Prop where
  target : h'.target = h.target
  claimUnits : h'.claimUnits = h.claimUnits
  holdUnits : h'.holdUnits = h.holdUnits
  economy : h'.economy = h.economy
  economyCount : h'.economyCount = h.economyCount

theorem SameEconomy.trans {h h' h'' : Heater} (first : SameEconomy h h') (second : SameEconomy h' h'') :
    SameEconomy h h'' where
  target := second.target.trans first.target
  claimUnits := second.claimUnits.trans first.claimUnits
  holdUnits := second.holdUnits.trans first.holdUnits
  economy := second.economy.trans first.economy
  economyCount := second.economyCount.trans first.economyCount

theorem SameEconomy.wantNow {h h' : Heater} (same : SameEconomy h h') : h'.wantNow = h.wantNow := by
  simp only [Heater.wantNow, same.target, same.claimUnits, same.holdUnits, same.economy]

/-- A second's economy is decided by those fields alone. -/
theorem SameEconomy.economySecond {h h' : Heater} (same : SameEconomy h h') (count : Nat) :
    SameEconomy (h.economySecond count) (h'.economySecond count) := by
  have moved : (h'.economySecond count).economy = (h.economySecond count).economy ∧
      (h'.economySecond count).economyCount = (h.economySecond count).economyCount := by
    simp only [Heater.economySecond, same.target, same.claimUnits, same.holdUnits, same.economy, same.economyCount]
    (repeat' split) <;> simp only [same.economy, same.economyCount, and_self]
  rw [h.economySecond_eq, h'.economySecond_eq]
  exact { same with economy := moved.1, economyCount := moved.2 }

theorem Heater.tested_sameEconomy (h : Heater) (count : Nat) : SameEconomy h (h.tested count) := by
  unfold Heater.tested; split <;> exact ⟨rfl, rfl, rfl, rfl, rfl⟩

theorem Heater.rampSecond_sameEconomy (h : Heater) : SameEconomy h h.rampSecond := by
  unfold Heater.rampSecond; split <;> exact ⟨rfl, rfl, rfl, rfl, rfl⟩

/-! ## The economy state at a second boundary (R104, R108) -/

theorem Heater.second_of_counted {h : Heater} (counted : countedSecond h set = true) :
    h.second set = { h.rampSecond.economySecond set.base with
      entrySample := none, want := (h.rampSecond.economySecond set.base).wantNow } := by
  have regulating : h.regulating = true := (Bool.and_eq_true_iff.1 counted).1
  simp only [Heater.second, regulating, counted, if_true]

theorem Heater.tested_counted (h : Heater) (set : SampleSet) :
    countedSecond (h.tested set.base) set = countedSecond h set := by
  obtain ⟨-, -, entry, -⟩ := h.tested_fields set.base
  simp only [countedSecond, (h.tested_sameSetpoint set.base).regulating, entry]

/-- Through the test, the counted second and the new period the economy moves as R109 and R110 alone give, and the want follows. -/
theorem Heater.boundary_economy {h : Heater} (counted : countedSecond h set = true) (rating : Nat) (seated : Bool) :
    let moved := h.economySecond set.base
    let after := ((h.tested set.base).second set).newPeriod rating set.base seated
    after.economy = moved.economy ∧ after.economyCount = moved.economyCount ∧ after.want = moved.wantNow := by
  intro moved after
  have second := Heater.second_of_counted ((h.tested_counted set).trans counted)
  have same : SameEconomy moved ((h.tested set.base).rampSecond.economySecond set.base) :=
    ((h.tested_sameEconomy set.base).trans (Heater.rampSecond_sameEconomy _)).economySecond set.base
  have period : after = _ := Heater.newPeriod_eq _ _ _ _
  rw [period, second]
  exact ⟨same.economy, same.economyCount, same.wantNow⟩

/-- A counted second brings the want up to date without having touched it before. -/
theorem heaterSecond_wants (set : SampleSet) (s : State) :
    (heaterSecond set s).inbox.wants =
      s.inbox.wants ++ if (s.heater.second set).want = s.heater.want then [] else [(s.heater.second set).want] := by
  unfold heaterSecond Heater.second
  split
  · have kept : (if countedSecond s.heater set then s.heater.rampSecond.economySecond set.base else s.heater).want =
        s.heater.want := by
      split
      · rw [Heater.economySecond_eq]; unfold Heater.rampSecond; split <;> rfl
      · rfl
    simp only [setWant_eq, kept]
  · simp

/-- A second boundary reports the want when it has changed (R108). -/
theorem heaterSetOp_wants (boundary : set.boundary = true) (s : State) :
    (heaterSetOp set s).inbox.wants = s.inbox.wants ++
      if (heaterSetOp set s).heater.want = s.heater.want then [] else [(heaterSetOp set s).heater.want] := by
  obtain ⟨wants, begun⟩ := heaterSetOp_boundary set s boundary
  have want : (heaterSetOp set s).heater.want = ((s.heater.tested set.base).second set).want := by
    rw [begun, Heater.newPeriod_eq]
  have kept : (s.heater.tested set.base).want = s.heater.want := by unfold Heater.tested; split <;> rfl
  have second := heaterSecond_wants set (overTempTest set s)
  rw [overTempTest_eq, kept, ← want] at second
  rw [← second, ← overTempTest_eq]
  simp only [heaterSetOp, boundary, if_true]

/-- The heater's operation at a counted second boundary, as the economy sees it. -/
theorem heaterSetOp_economy (boundary : set.boundary = true) (counted : countedSecond s.heater set = true) :
    let moved := s.heater.economySecond set.base
    let t := heaterSetOp set s
    t.heater.economy = moved.economy ∧ t.heater.economyCount = moved.economyCount ∧ t.heater.want = moved.wantNow := by
  intro moved t
  obtain ⟨wants, begun⟩ := heaterSetOp_boundary set s boundary
  have record := congrArg State.heater begun
  rw [show t.heater = _ from record]
  exact Heater.boundary_economy counted _ _

/-- Settles O14: at a counted boundary the economy moves by the base temperature as R109 and R110 give, and the want with it. -/
theorem economyFollowsTheBaseTemperature : Obligations.EconomyFollowsTheBaseTemperature := by
  intro s set rest high queued boundary regulating later heats saves low top
  have counted : countedSecond s.heater set = true := by simp [countedSecond, regulating, later]
  have near := nearTarget_iff low top s.heater.target
  have below := belowBand_iff low top s.heater.target
  have answers := exec_heaterSampleSet high queued
  obtain ⟨economy, count, want⟩ :=
    heaterSetOp_economy (s := { s with inbox := { s.inbox with heater := rest } }) boundary counted
  have wants := heaterSetOp_wants boundary { s with inbox := { s.inbox with heater := rest } }
  refine ⟨fun full warm => ⟨fun last => ?reached, fun early => ?counting⟩, fun full cold => ?away, fun saving cold => ?back,
    fun saving warm => ?stays⟩
  case reached =>
    have due : economyDue s.heater set = true := by
      simp [economyDue, boundary, counted, full, heats, saves, near.2 warm, last]
    have moved := Heater.economySecond_full full heats saves set.base
    rw [if_pos (near.2 warm), if_pos (Nat.le_of_eq last.symm)] at moved
    have hold : (s.heater.economySecond set.base).wantNow = s.heater.holdUnits := by
      rw [moved]; exact if_neg heats
    rw [want, hold] at wants
    refine ⟨_, (exec_economy high queued due).trans answers, answers, economy.trans ?_, count.trans ?_, want.trans hold, ?_⟩
    · rw [moved]
    · rw [moved]
    · simpa only [eq_comm] using wants
  case counting =>
    have moved := Heater.economySecond_full full heats saves set.base
    rw [if_pos (near.2 warm), if_neg (Nat.not_le.2 early)] at moved
    rw [moved] at economy count
    exact ⟨_, answers, economy.trans full, count⟩
  case away =>
    have moved := Heater.economySecond_full full heats saves set.base
    rw [if_neg (near.not.2 (Int.not_le.2 cold))] at moved
    rw [moved] at economy count
    exact ⟨_, answers, economy.trans full, count⟩
  case back =>
    have moved := Heater.economySecond_economy saving set.base
    rw [if_pos (below.2 cold)] at moved
    rw [moved] at economy count want
    exact ⟨_, answers, economy, count, want.trans (if_neg heats)⟩
  case stays =>
    have moved := Heater.economySecond_economy saving set.base
    rw [if_neg (below.not.2 (Int.not_lt.2 warm))] at moved
    rw [moved] at economy
    exact ⟨_, answers, economy.trans saving⟩

/-! ## Cuts and slots (R106, R107) -/

theorem Heater.take_eq (h : Heater) (units : Nat) :
    h.take units = if units < h.applied then { h with usable := units, cut := true, applied := 0, onSlots := 0 }
      else { h with usable := units } := rfl

theorem exec_usableUnits (high : s.resetN = true) {units : Nat} {later : List Nat}
    (queued : s.inbox.usables = units :: later) :
    exec .usableUnits s =
      .next { s with heater := s.heater.take units, inbox := { s.inbox with usables := later } } := by
  refine (ran_of_high _ _ high).trans (congrArg _ ?_)
  simp only [usableUnitsOp, queued]

/-- Before the last slot the end of a slot advances the slot position (R106). -/
theorem exec_burstSlotEnd (high : s.resetN = true) (runs : s.heater.periodRunning = true) (more : s.heater.slotPos < 24) :
    exec .burstSlotEnd s = .next { s with heater := { s.heater with slotPos := s.heater.slotPos + 1 } } := by
  refine (ran_of_high _ _ high).trans (congrArg _ ?_)
  simp only [burstSlotOp, runs, if_true, Nat.min_eq_right more]

/-- Settles O15: the raw opening and a fall of the usable units below the applied units cut the period, and an uncut one of a
REGULATING heater holds the gate high over its on-slots. -/
theorem cutsAndSlotsOfABurstPeriod : Obligations.CutsAndSlotsOfABurstPeriod := by
  intro s high
  have opened : exec .rawBowlOpenHeater s = .next (bowlOpenHeaterOp s) := ran_of_high _ _ high
  exact ⟨⟨_, opened, heatGate_of_cut rfl, rfl⟩,
    fun units rest queued => ⟨_, exec_usableUnits high queued, s.heater.take_eq units, rfl⟩,
    exec_burstSlotEnd high, heatGate_iff high⟩

end Sys2Proof.Machine
end

-- ==== RESET_N low, the table of levels, and the stirred level ====
section
/-! SUPPORT. What the outputs and the commands do while RESET_N is low (R115), the figures of Table 6-2 (R116) and the stirred level
of each stirrer state (R129). -/

namespace Sys2Proof.Machine

variable {s : State}

/-! ## RESET_N low (R115, log entry 10) -/

/-- While RESET_N is low every output is low, whatever the units hold. -/
theorem outputs_of_low (low : s.resetN = false) :
    heatGate s = false ∧ motorPwm s = 0 ∧ motorDir s = false ∧ lockDrive s = false ∧ hlTxCells s = [] := by
  simp [heatGate, motorPwm, motorDir, lockDrive, hlTxCells, low]

/-- Each row but RESET and RESET_ASSERTED is an operation of the running block, and while RESET_N is low none of those acts. -/
theorem exec_of_low (low : s.resetN = false) {c : Instr} (notReset : ∀ straps pins, c ≠ .reset straps pins)
    (notAsserted : ∀ straps, c ≠ .resetAsserted straps) : exec c s = .next s := by
  cases c with
  | reset straps pins => exact absurd rfl (notReset straps pins)
  | resetAsserted straps => exact absurd rfl (notAsserted straps)
  | economy => change execEconomy s = _; exact ran_of_low _ _ low
  | unknownCommand src dst code => change execUnknownCommand src dst code s = _; exact ran_of_low _ _ low
  | unknownItem src dst item index => change execUnknownItem src dst item index s = _; exact ran_of_low _ _ low
  | _ => exact ran_of_low _ _ low

/-- Settles O3: the assertion of RESET_N leaves all but the straps, and its level alone takes the outputs low. -/
theorem lowResetLowersOutputsAndStopsEvents : Obligations.LowResetLowersOutputsAndStopsEvents := by
  intro s
  exact ⟨fun straps => ⟨resetAssertedOp straps s, rfl, rfl, outputs_of_low rfl⟩, fun low _ => exec_of_low low⟩

/-! ## The levels (Table 6-2, R116) -/

theorem dutyAfter_below {duty level tach : Nat} (below : 100 * (10 * tach) < 95 * levelSpeed level) :
    dutyAfter duty level tach = min 100 (duty + 2) := if_pos below

theorem dutyAfter_above {duty level tach : Nat} (above : 105 * levelSpeed level < 100 * (10 * tach)) :
    dutyAfter duty level tach = duty - 2 := by
  have notBelow : ¬100 * rpm tach < 95 * levelSpeed level := by unfold rpm; omega
  exact (if_neg notBelow).trans (if_pos above)

theorem dutyAfter_within {duty level tach : Nat} (floor : 95 * levelSpeed level ≤ 100 * (10 * tach))
    (ceiling : 100 * (10 * tach) ≤ 105 * levelSpeed level) : dutyAfter duty level tach = duty :=
  (if_neg (Nat.not_lt.2 floor)).trans (if_neg (Nat.not_lt.2 ceiling))

/-- Settles O16: the thirteen rows of Table 6-2, and the band of regulation. -/
theorem eachLevelHasItsSpeedDutyAndLock : Obligations.EachLevelHasItsSpeedDutyAndLock :=
  ⟨by decide, fun _ _ _ => dutyAfter_within⟩

/-! ## The stirred level (R129) -/

/-- Settles O24: in INTERVAL_OFF the paddle counts as stirring until the zero count has reached 3. -/
theorem stirredLevelByState : Obligations.StirredLevelByState := by
  intro t
  cases state : t.state with
  | intervalOff =>
    have coasting : (t.zeroCount < 3) = ¬3 ≤ t.zeroCount := propext Nat.not_le.symm
    simp only [Stirrer.stirredLevel, state, coasting, ite_not]
  | _ => simp only [Stirrer.stirredLevel, state]

end Sys2Proof.Machine
end

-- ==== The stopped stirrer, settings, pins and timers ====
section
/-! SUPPORT. How the drive is started (R119 item 5, R124), what the stopped stirrer does with its setting (R119, R121), what a setting
handed over does in each state (R117, R120), and the pin events and timers of the stirrer (R121, R124, R127). -/

namespace Sys2Proof.Machine

variable {s : State} {t : Stirrer}

/-! ## The drive is started (R119 item 5, R124) -/

theorem inOffPhase_iff (pos : Option PatternPos) : inOffPhase pos = true ↔ ∃ n, pos = some ⟨false, n⟩ := by
  rcases pos with _ | ⟨_ | _, left⟩ <;> simp [inOffPhase]

theorem Stirrer.startDrive_off (t : Stirrer) (off : ∃ n, t.patternPos = some ⟨false, n⟩) :
    t.startDrive = { t with
      drivenLevel := t.setting.level, drivenDirection := t.setting.direction
      state := .intervalOff, zeroCount := 0, duty := 0, spinTimer := .stopped } :=
  if_pos ((inOffPhase_iff _).2 off)

theorem Stirrer.startDrive_on (t : Stirrer) (on : ∀ n, t.patternPos ≠ some ⟨false, n⟩) :
    t.startDrive = { t with
      drivenLevel := t.setting.level, drivenDirection := t.setting.direction
      state := .spinup, duty := 8 * t.setting.level, stallCount := 0, spinTimer := .running } :=
  if_neg fun off => by
    obtain ⟨n, pos⟩ := (inOffPhase_iff _).1 off
    exact on n pos

/-- In either phase the drive takes the setting's level and direction and leaves the lock, the release count and the
suspended flag. -/
theorem Stirrer.startDrive_fields (t : Stirrer) :
    t.startDrive.drivenLevel = t.setting.level ∧ t.startDrive.drivenDirection = t.setting.direction ∧
      t.startDrive.lockDriven = t.lockDriven ∧ t.startDrive.lockTimer = t.lockTimer ∧
      t.startDrive.releaseCount = t.releaseCount ∧ t.startDrive.suspended = t.suspended := by
  simp only [Stirrer.startDrive]; split <;> exact ⟨rfl, rfl, rfl, rfl, rfl, rfl⟩

/-! ## The stopped stirrer acts on its setting (R119, R121) -/

theorem needsLock_iff (level : Nat) : needsLock level = true ↔ 5 ≤ level := decide_eq_true_iff

theorem needsLock_eq_false_iff (level : Nat) : needsLock level = false ↔ level < 5 :=
  decide_eq_false_iff_not.trans Nat.not_le

/-- Items 1 to 3: the stirrer stays as it is. -/
theorem actOnSetting_stays (stays : s.stirrer.suspended = true ∨ s.stirrer.setting.level = 0 ∨
    (s.stirrer.setting.level < 5 ∧ s.stirrer.lockDriven = true) ∨ s.pins.bowlSeated = false) : actOnSetting s = s := by
  rcases stays with suspended | zero | ⟨slow, driven⟩ | unseated
  · simp [actOnSetting, suspended]
  · simp [actOnSetting, zero]
  · simp [actOnSetting, (needsLock_eq_false_iff _).2 slow, driven]
  · simp [actOnSetting, unseated]

/-- Past items 1 to 3 the stirrer asks for the lock, or starts the drive (items 4 and 5). -/
theorem actOnSetting_past (live : s.stirrer.suspended = false) (seated : s.pins.bowlSeated = true)
    (turning : 0 < s.stirrer.setting.level) (free : 5 ≤ s.stirrer.setting.level ∨ s.stirrer.lockDriven = false) :
    actOnSetting s =
      if needsLock s.stirrer.setting.level && (!s.stirrer.lockDriven || !s.pins.lidLocked) then lockRequest s
      else { s with stirrer := s.stirrer.startDrive } := by
  have item1 : ¬(s.stirrer.suspended || s.stirrer.setting.level = 0) = true := by
    simpa [live] using Nat.ne_of_gt turning
  have item2 : ¬(!needsLock s.stirrer.setting.level && s.stirrer.lockDriven) = true := by
    rcases free with fast | released
    · simp [(needsLock_iff _).2 fast]
    · simp [released]
  have item3 : ¬(!s.pins.bowlSeated) = true := by simp [seated]
  exact (if_neg item1).trans ((if_neg item2).trans (if_neg item3))

theorem lockRequest_open (lid : s.chan.latest.lid = false) :
    lockRequest s = report .lid { s with stirrer := { s.stirrer with suspended := true, state := .stopped } } := by
  simp [lockRequest, lid]

theorem lockRequest_closed (lid : s.chan.latest.lid = true) (away : s.pins.lidLocked = false) :
    lockRequest s =
      { s with stirrer := { s.stirrer with lockDriven := true, state := .locking, lockTimer := .running } } := by
  simp [lockRequest, lid, away]

/-- A lock request that finds the bolt home senses the lock in the same operation. -/
theorem lockRequest_home (lid : s.chan.latest.lid = true) (home : s.pins.lidLocked = true) :
    lockRequest s = { s with
      stirrer := { s.stirrer with lockDriven := true, state := .locking, lockTimer := .running : Stirrer }.sensed
        s.pins.bowlSeated } := by
  simp [lockRequest, lid, home]

/-- Item 4: a level of 5 or above without the lock, or without the bolt home, makes a lock request. -/
theorem actOnSetting_request (live : s.stirrer.suspended = false) (seated : s.pins.bowlSeated = true)
    (fast : 5 ≤ s.stirrer.setting.level) (unlocked : s.stirrer.lockDriven = false ∨ s.pins.lidLocked = false) :
    actOnSetting s = lockRequest s := by
  rw [actOnSetting_past live seated (by omega) (.inl fast), (needsLock_iff _).2 fast]
  rcases unlocked with released | slipped
  · simp [released]
  · simp [slipped]

/-- Item 5: the drive is started with the lock as the level needs it. -/
theorem actOnSetting_starts (live : s.stirrer.suspended = false) (seated : s.pins.bowlSeated = true)
    (turning : 0 < s.stirrer.setting.level) (lock : s.stirrer.lockDriven = needsLock s.stirrer.setting.level)
    (home : 5 ≤ s.stirrer.setting.level → s.pins.lidLocked = true) :
    actOnSetting s = { s with stirrer := s.stirrer.startDrive } := by
  rcases Nat.lt_or_ge s.stirrer.setting.level 5 with slow | fast
  · have needs := (needsLock_eq_false_iff _).2 slow
    rw [actOnSetting_past live seated turning (.inr (lock.trans needs)), needs]
    exact if_neg (by simp)
  · have needs := (needsLock_iff _).2 fast
    rw [actOnSetting_past live seated turning (.inl fast), lock, needs, home fast]
    exact if_neg (by decide)

/-- Item 5, and the lock request that senses the lock at once: both start the drive of this setting. -/
theorem actOnSetting_drives (live : s.stirrer.suspended = false) (seated : s.pins.bowlSeated = true)
    (ready : (0 < s.stirrer.setting.level ∧ s.stirrer.setting.level < 5 ∧ s.stirrer.lockDriven = false) ∨
      (5 ≤ s.stirrer.setting.level ∧ s.pins.lidLocked = true ∧
        (s.stirrer.lockDriven = true ∨ s.chan.latest.lid = true))) :
    ∃ t, actOnSetting s = { s with stirrer := t.startDrive } ∧ s.stirrer.SameSetting t ∧
      t.lockDriven = needsLock s.stirrer.setting.level := by
  rcases ready with ⟨turning, slow, released⟩ | ⟨fast, home, way⟩
  · have lock := released.trans ((needsLock_eq_false_iff _).2 slow).symm
    exact ⟨_, actOnSetting_starts live seated turning lock fun fast => absurd fast (by omega), ⟨rfl, rfl⟩, lock⟩
  · have turning : 0 < s.stirrer.setting.level := by omega
    have needs := (needsLock_iff _).2 fast
    cases driven : s.stirrer.lockDriven with
    | true =>
      have lock := driven.trans needs.symm
      exact ⟨_, actOnSetting_starts live seated turning lock fun _ => home, ⟨rfl, rfl⟩, lock⟩
    | false =>
      have lid : s.chan.latest.lid = true := way.resolve_left (by simp [driven])
      refine ⟨{ s.stirrer with lockDriven := true, state := .locking, lockTimer := .stopped }, ?_, ⟨rfl, rfl⟩, needs.symm⟩
      rw [actOnSetting_request live seated fast (.inl driven), lockRequest_home lid home, seated]
      rfl

/-- Settles O19: items 1 to 3 stay, item 4 is the lock request, and item 5 or a bolt found home starts the drive. -/
theorem stoppedStirrerActsOnItsSetting : Obligations.StoppedStirrerActsOnItsSetting := by
  intro s stopped t set
  refine ⟨actOnSetting_stays, fun live seated => ⟨fun fast unlocked => ?request, fun ready => ?drive⟩, ?frame⟩
  case request =>
    have asks : t = lockRequest s := actOnSetting_request live seated fast unlocked
    refine ⟨fun lid => ?_, fun lid away => ?_⟩
    · rw [asks, lockRequest_open lid, ← stopped]
      exact ⟨rfl, rfl⟩
    · rw [asks, lockRequest_closed lid away]
      exact ⟨rfl, rfl⟩
  case drive =>
    obtain ⟨record, drives, ⟨setting, pos⟩, lock⟩ := actOnSetting_drives live seated ready
    obtain ⟨level, direction, lock_kept, -⟩ := record.startDrive_fields
    rw [show t = _ from drives]
    rw [show set = _ from setting.symm, ← pos]
    refine ⟨level, direction, rfl, ?_, fun off => ?_, fun on => ?_⟩
    · rw [lock_kept, lock, ← setting]; exact needsLock_iff _
    · rw [record.startDrive_off off]; exact ⟨rfl, rfl, rfl⟩
    · rw [record.startDrive_on on]; exact ⟨rfl, rfl, rfl, rfl⟩
  case frame =>
    obtain ⟨_, _, acts, -⟩ := actOnSetting_acts s
    rw [show t = _ from acts]

/-! ## A setting is handed over (R117, R120) -/

theorem giveSetting_stopped (stopped : s.stirrer.state = .stopped) (setting : Setting) (pos : Option PatternPos) :
    giveSetting setting pos s = actOnSetting { s with stirrer := s.stirrer.take setting pos } := by
  simp only [giveSetting, Stirrer.take, stopped]

theorem giveSetting_stopping (stopping : s.stirrer.state = .stopping) (setting : Setting) (pos : Option PatternPos) :
    giveSetting setting pos s = { s with stirrer := s.stirrer.take setting pos } := by
  simp only [giveSetting, Stirrer.take, stopping]

theorem giveSetting_locking (locking : s.stirrer.state = .locking) (setting : Setting) (pos : Option PatternPos) :
    giveSetting setting pos s = { s with stirrer := (s.stirrer.take setting pos).goStopping } := by
  simp only [giveSetting, Stirrer.take, locking]

theorem moving_iff (state : StirrerState) :
    state.moving = true ↔ state = .spinup ∨ state = .running ∨ state = .intervalOff := by
  cases state <;> decide

theorem giveSetting_moving (moving : s.stirrer.state.moving = true) (setting : Setting) (pos : Option PatternPos) :
    giveSetting setting pos s = { s with stirrer := (s.stirrer.take setting pos).change } := by
  rcases (moving_iff _).1 moving with spinup | running | off
  · simp only [giveSetting, Stirrer.take, spinup]
  · simp only [giveSetting, Stirrer.take, running]
  · simp only [giveSetting, Stirrer.take, off]

/-- Items 1 to 3 of R120. -/
theorem Stirrer.change_stops (stops : t.setting.level = 0 ∨ t.setting.direction ≠ t.drivenDirection ∨
    (5 ≤ t.setting.level ∧ t.lockDriven = false) ∨ (t.setting.level < 5 ∧ t.lockDriven = true)) :
    t.change = t.goStopping := by
  refine if_pos ?_
  rcases stops with zero | turned | ⟨fast, released⟩ | ⟨slow, driven⟩
  · exact .inl zero
  · exact .inr (.inl turned)
  · exact .inr (.inr (by simp [(needsLock_iff _).2 fast, released]))
  · exact .inr (.inr (by simp [(needsLock_eq_false_iff _).2 slow, driven]))

section GoesOn

variable (turning : t.setting.level ≠ 0) (ahead : t.setting.direction = t.drivenDirection)
  (suits : 5 ≤ t.setting.level ↔ t.lockDriven = true)

include turning ahead suits

/-- A level above 0 in the driven direction with the lock it needs: the motion goes on (R120, items 4 and 5). -/
theorem Stirrer.change_goesOn :
    t.change = if t.state = .intervalOff ∨ t.setting.level ≠ t.drivenLevel then t.startDrive else t := by
  have lock : needsLock t.setting.level = t.lockDriven := Bool.eq_iff_iff.2 ((needsLock_iff _).trans suits)
  exact if_neg (by simp [turning, ahead, lock])

/-- Item 4 of R120. -/
theorem Stirrer.change_afresh (afresh : t.state = .intervalOff ∨ t.setting.level ≠ t.drivenLevel) :
    t.change = t.startDrive := (Stirrer.change_goesOn turning ahead suits).trans (if_pos afresh)

/-- Item 5 of R120. -/
theorem Stirrer.change_same (driven : t.state ≠ .intervalOff) (same : t.setting.level = t.drivenLevel) :
    t.change = t :=
  (Stirrer.change_goesOn turning ahead suits).trans (if_neg (not_or.2 ⟨driven, not_not.2 same⟩))

end GoesOn

/-- A change of the motion leaves the lock and the suspended flag. -/
theorem Stirrer.change_lock (t : Stirrer) : t.change.lockDriven = t.lockDriven ∧ t.change.suspended = t.suspended := by
  obtain ⟨-, -, lock, -, -, suspended⟩ := t.startDrive_fields
  simp only [Stirrer.change]
  split
  · exact ⟨rfl, rfl⟩
  split
  · exact ⟨lock, suspended⟩
  · exact ⟨rfl, rfl⟩

/-- Outside STOPPED a setting handed over clears the suspended flag and leaves the lock and the reports (R117, R120). -/
theorem giveSetting_unstopped (unstopped : s.stirrer.state ≠ .stopped) (setting : Setting) (pos : Option PatternPos) :
    let t := giveSetting setting pos s
    t.stirrer.suspended = false ∧ t.stirrer.lockDriven = s.stirrer.lockDriven ∧ t.inbox = s.inbox := by
  intro t
  have change (moving : s.stirrer.state.moving = true) :
      t.stirrer.suspended = false ∧ t.stirrer.lockDriven = s.stirrer.lockDriven ∧ t.inbox = s.inbox := by
    obtain ⟨lock, suspended⟩ := (s.stirrer.take setting pos).change_lock
    rw [show t = _ from giveSetting_moving moving setting pos]
    exact ⟨suspended, lock, rfl⟩
  cases state : s.stirrer.state with
  | stopped => exact absurd state unstopped
  | stopping => rw [show t = _ from giveSetting_stopping state setting pos]; exact ⟨rfl, rfl, rfl⟩
  | locking => rw [show t = _ from giveSetting_locking state setting pos]; exact ⟨rfl, rfl, rfl⟩
  | spinup | running | intervalOff => exact change (by rw [state]; rfl)

/-- Settles O20: a setting is taken in any state, and in motion R120 compares it with the motion. -/
theorem settingIsTakenByState : Obligations.SettingIsTakenByState := by
  intro set pos s t
  obtain ⟨_, _, setting, position, given⟩ := giveSetting_eq set pos s
  rw [show giveSetting set pos s = t from rfl] at given
  refine ⟨by rw [given]; exact setting, by rw [given]; exact position, fun stopped => ?stopped,
    fun unstopped => giveSetting_unstopped unstopped set pos, fun stopping => ?stopping, fun locking => ?locking,
    fun moving => ⟨fun stops => ?stops, fun turning ahead suits => ⟨fun afresh => ?afresh, fun driven same => ?same⟩⟩,
    by rw [given]⟩
  case stopped => simpa only [Stirrer.take, needsLock_iff] using giveSetting_stopped stopped set pos
  case stopping => rw [show t = _ from giveSetting_stopping stopping set pos]; exact ⟨stopping, rfl⟩
  case locking => rw [show t = _ from giveSetting_locking locking set pos]; exact ⟨rfl, rfl⟩
  case stops =>
    rw [show t = _ from giveSetting_moving moving set pos, Stirrer.change_stops (t := s.stirrer.take set pos) stops]
    exact ⟨rfl, rfl, rfl, rfl⟩
  case afresh =>
    rw [show t = _ from giveSetting_moving moving set pos,
      Stirrer.change_afresh (t := s.stirrer.take set pos) turning ahead suits afresh]
    refine ⟨(Stirrer.startDrive_fields _).1, fun off => ?_, fun on => ?_⟩
    · rw [Stirrer.startDrive_off _ off]
    · rw [Stirrer.startDrive_on _ on]; exact ⟨rfl, rfl⟩
  case same =>
    rw [show t = _ from giveSetting_moving moving set pos,
      Stirrer.change_same (t := s.stirrer.take set pos) turning ahead suits driven same]
    exact ⟨rfl, rfl, rfl, rfl⟩

/-! ## Raw events (R121, R127) -/

theorem motorPwm_of_open (opened : s.pins.bowlSeated = false) : motorPwm s = 0 := by simp [motorPwm, opened]

/-- Outside SPINUP and RUNNING the motor has no duty (R118). -/
theorem motorPwm_of_idle (still : s.stirrer.state ≠ .spinup) (unrun : s.stirrer.state ≠ .running) : motorPwm s = 0 := by
  simp [motorPwm, still, unrun]

theorem bowlSeatedOp_of_open (opened : s.pins.bowlSeated = false) :
    bowlSeatedOp s = if s.stirrer.state = .stopped then actOnSetting { s with pins := { s.pins with bowlSeated := true } }
      else { s with pins := { s.pins with bowlSeated := true } } := by
  simp only [bowlSeatedOp, opened, Bool.false_eq_true, if_false]

theorem lockSensedOp_of_locking (locking : s.stirrer.state = .locking) :
    lockSensedOp s = { s with
      pins := { s.pins with lidLocked := true }, stirrer := s.stirrer.sensed s.pins.bowlSeated } := by
  simp only [lockSensedOp, locking, if_true]

theorem Stirrer.sensed_open (t : Stirrer) : t.sensed false = { t with lockTimer := .stopped, state := .stopped } := rfl

theorem Stirrer.sensed_seated (t : Stirrer) : t.sensed true = Stirrer.startDrive { t with lockTimer := .stopped } := rfl

theorem Stirrer.sensed_lockTimer (t : Stirrer) (seated : Bool) : (t.sensed seated).lockTimer = .stopped := by
  cases seated with
  | false => rfl
  | true =>
    obtain ⟨-, -, -, timer, -⟩ := Stirrer.startDrive_fields { t with lockTimer := .stopped }
    exact timer

/-- The record after a drop of the lock that is acted on: cut when it moves, and suspended (R127). -/
def Stirrer.dropped (t : Stirrer) : Stirrer := { (if t.state.moving then t.goStopping else t) with suspended := true }

theorem Stirrer.dropped_fields (t : Stirrer) : t.dropped.suspended = true ∧ t.dropped.lockDriven = t.lockDriven ∧
    t.dropped.state = if t.state.moving = true then .stopping else t.state := by
  unfold Stirrer.dropped; split <;> exact ⟨rfl, rfl, rfl⟩

/-- A drop that is acted on leaves no drive. -/
theorem Stirrer.dropped_still (t : Stirrer) : t.dropped.state ≠ .spinup ∧ t.dropped.state ≠ .running := by
  rw [t.dropped_fields.2.2]
  cases t.state <;> decide

theorem lockDroppedOp_of_locked (locked : s.pins.lidLocked = true) :
    lockDroppedOp s =
      if dropActs s.stirrer then
        report .lid { s with pins := { s.pins with lidLocked := false }, stirrer := s.stirrer.dropped }
      else { s with pins := { s.pins with lidLocked := false } } := if_pos locked

theorem dropActs_iff (t : Stirrer) :
    dropActs t = true ↔ t.lockDriven = true ∧ t.state ≠ .locking ∧ 5 ≤ t.setting.level := by
  simp [dropActs, needsLock_iff, and_assoc]

/-! ## The cuts, the bowl's return and the timers (R121, R124, R127) -/

/-- The raw opening of the bowl cuts a drive in motion (R127). -/
theorem bowlOpenStirrerOp_cuts (s : State) :
    let t := bowlOpenStirrerOp s
    t.pins = { s.pins with bowlSeated := false } ∧ motorPwm t = 0 ∧
      (s.stirrer.state.moving = true → t.stirrer = s.stirrer.goStopping) ∧
      (s.stirrer.state.moving = false → t.stirrer = s.stirrer) ∧ t = { s with pins := t.pins, stirrer := t.stirrer } :=
  ⟨rfl, motorPwm_of_open rfl, fun moving => if_pos moving, fun still => if_neg (by simp [still]), rfl⟩

/-- A drop of the lock cuts the drive and is reported, where the lock is needed (R127). -/
theorem lockDroppedOp_drops (locked : s.pins.lidLocked = true) :
    let t := lockDroppedOp s
    t.pins = { s.pins with lidLocked := false } ∧
      (s.stirrer.lockDriven = true → s.stirrer.state ≠ .locking → 5 ≤ s.stirrer.setting.level →
        t.stirrer.suspended = true ∧ t.stirrer.lockDriven = true ∧ motorPwm t = 0 ∧
        t.stirrer.state = (if s.stirrer.state.moving = true then .stopping else s.stirrer.state) ∧
        t.inbox = { s.inbox with reports := s.inbox.reports ++ [.lid] }) ∧
      (s.stirrer.lockDriven = false ∨ s.stirrer.setting.level < 5 → t.stirrer = s.stirrer ∧ t.inbox = s.inbox) ∧
      t = { s with pins := t.pins, stirrer := t.stirrer, inbox := t.inbox } := by
  intro t
  have op : t = _ := lockDroppedOp_of_locked locked
  cases acts : dropActs s.stirrer with
  | true =>
    obtain ⟨driven, -, fast⟩ := (dropActs_iff _).1 acts
    obtain ⟨suspended, lock, state⟩ := s.stirrer.dropped_fields
    obtain ⟨still, unrun⟩ := s.stirrer.dropped_still
    rw [acts, if_pos rfl] at op
    rw [op]
    refine ⟨rfl, fun _ _ _ => ⟨suspended, lock.trans driven, motorPwm_of_idle still unrun, state, rfl⟩, fun idle => ?_, rfl⟩
    rcases idle with released | slow
    · simp [released] at driven
    · omega
  | false =>
    rw [acts, if_neg Bool.false_ne_true] at op
    rw [op]
    refine ⟨rfl, fun driven unlocking fast => ?_, fun _ => ⟨rfl, rfl⟩, rfl⟩
    exact absurd ((dropActs_iff _).2 ⟨driven, unlocking, fast⟩) (by simp [acts])

/-- The lock sensed in LOCKING starts the drive, or the stirrer waits for the bowl (R121). -/
theorem lockSensedOp_senses (locking : s.stirrer.state = .locking) :
    let t := lockSensedOp s
    t.pins = { s.pins with lidLocked := true } ∧ t.stirrer.lockTimer = .stopped ∧
      (s.pins.bowlSeated = false → t.stirrer = { s.stirrer with lockTimer := .stopped, state := .stopped }) ∧
      (s.pins.bowlSeated = true → (∀ n, s.stirrer.patternPos ≠ some ⟨false, n⟩) →
        t.stirrer.state = .spinup ∧ t.stirrer.duty = 8 * s.stirrer.setting.level ∧ t.stirrer.spinTimer = .running ∧
        t.stirrer.drivenLevel = s.stirrer.setting.level) ∧
      (s.pins.bowlSeated = true → (∃ n, s.stirrer.patternPos = some ⟨false, n⟩) → t.stirrer.state = .intervalOff) ∧
      t = { s with pins := t.pins, stirrer := t.stirrer } := by
  intro t
  rw [show t = _ from lockSensedOp_of_locking locking]
  refine ⟨rfl, s.stirrer.sensed_lockTimer _, fun opened => ?_, fun seated on => ?_, fun seated off => ?_, rfl⟩
  · rw [opened, Stirrer.sensed_open]
  · rw [seated, Stirrer.sensed_seated, Stirrer.startDrive_on { s.stirrer with lockTimer := .stopped } on]
    exact ⟨rfl, rfl, rfl, rfl⟩
  · rw [seated, Stirrer.sensed_seated, Stirrer.startDrive_off { s.stirrer with lockTimer := .stopped } off]

/-- Settles O23: each row is its operation, and each operation acts in the states the rules name. -/
theorem pinEventsAndTimersMoveTheStirrer : Obligations.PinEventsAndTimersMoveTheStirrer := by
  intro s high
  refine ⟨⟨_, ran_of_high _ _ high, bowlOpenStirrerOp_cuts s⟩, fun opened => ⟨_, ran_of_high _ _ high, ?seated⟩,
    fun locked => ⟨_, ran_of_high _ _ high, lockDroppedOp_drops locked⟩,
    fun locking => ⟨_, ran_of_high _ _ high, lockSensedOp_senses locking⟩,
    fun locking runs => (ran_of_high _ _ high).trans ?lockTimer, fun spinup runs => (ran_of_high _ _ high).trans ?spinTimer⟩
  case seated =>
    rw [bowlSeatedOp_of_open opened]
    exact ⟨fun stopped => if_pos stopped, fun unstopped => if_neg unstopped⟩
  case lockTimer => rw [lockTimerOp, if_pos ⟨locking, runs⟩]; rfl
  case spinTimer => rw [spinTimerOp, if_pos ⟨spinup, runs⟩]

end Sys2Proof.Machine
end

-- ==== A sample set at the stirrer ====
section
/-! SUPPORT. What a sample set does to a stirrer in motion (R124, R125), to the pattern position (R126), at a stall (R125) and
to a stirrer that stands or stops (R122, R123), each after the lid-sense test of the set (R128). -/

namespace Sys2Proof.Machine

variable {s : State} {t : Stirrer} {set : SampleSet} {rest : List SampleSet}

/-! ## The oldest sample set at the stirrer (R128) -/

/-- The state in which the work of a sample set begins: the set taken from the inbox, its lid switches tested. -/
def lidTested (set : SampleSet) (rest : List SampleSet) (s : State) : State := { s with
  stirrer := { s.stirrer with lidSense := decide (set.lid = false ∧ set.lock = true) }
  inbox := { s.inbox with
    stirrer := rest
    reports := s.inbox.reports ++
      if set.lid = false ∧ set.lock = true ∧ s.stirrer.lidSense = false then [.lidSense] else [] } }

/-- The lid-sense test of the set just taken leads to that state. -/
theorem lidSenseTest_taken (set : SampleSet) (rest : List SampleSet) (s : State) :
    lidSenseTest set { s with inbox := { s.inbox with stirrer := rest } } = lidTested set rest s := by
  have contradicts : lidContradiction set = decide (set.lid = false ∧ set.lock = true) := by simp [lidContradiction]
  have rises : (lidContradiction set && !s.stirrer.lidSense) = true ↔
      set.lid = false ∧ set.lock = true ∧ s.stirrer.lidSense = false := by simp [lidContradiction, and_assoc]
  simp only [lidSenseTest, lidTested, reportIf, rises]
  rw [contradicts]
  split
  · rfl
  · simp only [List.append_nil]

/-- That state as the work of the set sees it: the latest set is the set itself (R145). -/
def lidTestedSeen (set : SampleSet) (rest : List SampleSet) (s : State) : State :=
  { lidTested set rest s with chan := s.chan.withLatest set }

theorem lidTested_lidSense (set : SampleSet) (rest : List SampleSet) (s : State) :
    (lidTested set rest s).stirrer.lidSense = true ↔ set.lid = false ∧ set.lock = true := decide_eq_true_iff

/-- The work that follows the lid-sense test. -/
def stirrerWork (set : SampleSet) (s : State) : State :=
  if set.boundary && s.stirrer.state.moving then
    { stirrerStateSet set s with stirrer := (stirrerStateSet set s).stirrer.patternSecond }
  else stirrerStateSet set s

/-- The sample set as a whole: its work in the channels as the set saw them, after the lid-sense test (R128, R145). -/
theorem exec_stirrerSampleSet (high : s.resetN = true) (queued : s.inbox.stirrer = set :: rest) {v : State}
    (work : stirrerWork set (lidTestedSeen set rest s) = v) :
    exec .stirrerSampleSet s = .next { v with chan := s.chan } := by
  refine (ran_of_high _ _ high).trans (congrArg _ ?_)
  have tested : _ = lidTestedSeen set rest s := lidSenseTest_taken set rest { s with chan := s.chan.withLatest set }
  rw [takeStirrerSet_cons queued, seeing_eq, ← work]
  simp only [stirrerSetOp, stirrerWork, tested]
  rfl

/-- A row that names a case of the sample set is that sample set when its case holds (log entry 3). -/
theorem ran_stirrerCase (high : s.resetN = true) (queued : s.inbox.stirrer = set :: rest)
    {due : Stirrer → SampleSet → Bool} (holds : due s.stirrer set = true) :
    ran (stirrerCase due) s = exec .stirrerSampleSet s := by
  have same : stirrerCase due s = takeStirrerSet stirrerSetOp s := by simp only [stirrerCase, queued, holds, if_true]
  exact (ran_of_high _ _ high).trans ((congrArg _ same).trans (ran_of_high _ _ high).symm)

/-! ## A stirrer in motion (R124, R125) -/

theorem slow_iff (t : Stirrer) (set : SampleSet) :
    slow t set = true ↔ 100 * (10 * set.tach) < 30 * levelSpeed t.drivenLevel := decide_eq_true_iff

theorem stallDue_iff (t : Stirrer) (set : SampleSet) : stallDue t set = true ↔
    t.state = .running ∧ 100 * (10 * set.tach) < 30 * levelSpeed t.drivenLevel ∧ 9 ≤ t.stallCount := by
  simp [stallDue, slow_iff, and_assoc]

/-- The record of a stirrer in motion after a set that does not stall it, before the pattern counts. -/
def Stirrer.worked (t : Stirrer) (set : SampleSet) : Stirrer :=
  if t.state = .intervalOff then
    { t with zeroCount := if set.tach = 0 then min 3 (t.zeroCount + 1) else 0 }
  else
    { t with
      duty := dutyAfter t.duty t.drivenLevel set.tach
      stallCount := if t.state = .spinup then t.stallCount
        else if 100 * (10 * set.tach) < 30 * levelSpeed t.drivenLevel then t.stallCount + 1 else 0 }

theorem stirrerStateSet_running (running : s.stirrer.state = .running) (set : SampleSet) :
    stirrerStateSet set s = runningSet set s := by simp only [stirrerStateSet, running]

theorem runningSet_unstalled (unstalled : ¬(slow s.stirrer set = true ∧ 9 ≤ s.stirrer.stallCount)) :
    runningSet set s = { s with stirrer := { s.stirrer.adjust set with
      stallCount := if slow s.stirrer set = true then s.stirrer.stallCount + 1 else 0 } } := by
  simp only [runningSet]
  by_cases below : slow s.stirrer set = true
  · have short : ¬9 ≤ s.stirrer.stallCount := fun tenth => unstalled ⟨below, tenth⟩
    rw [if_pos below, if_neg short, if_pos below]
  · rw [if_neg below, if_neg below]

theorem stirrerStateSet_moving (moving : s.stirrer.state.moving = true) (unstalled : ¬stallDue s.stirrer set = true) :
    stirrerStateSet set s = { s with stirrer := s.stirrer.worked set } := by
  rcases (moving_iff _).1 moving with spinup | running | off
  · simp only [stirrerStateSet, spinup, Stirrer.worked, Stirrer.adjust, reduceCtorEq, if_false, if_true]
  · have short : ¬(slow s.stirrer set = true ∧ 9 ≤ s.stirrer.stallCount) := fun stall =>
      unstalled ((stallDue_iff _ _).2 ⟨running, (slow_iff _ _).1 stall.1, stall.2⟩)
    simp only [stirrerStateSet, running, runningSet_unstalled short, Stirrer.worked, Stirrer.adjust, slow_iff,
      reduceCtorEq, if_false]
  · have still : min 3 (stillCount s.stirrer.zeroCount set) =
        if set.tach = 0 then min 3 (s.stirrer.zeroCount + 1) else 0 := by
      unfold stillCount; split <;> simp
    simp only [stirrerStateSet, off, still, Stirrer.worked, if_true]

/-- The record with a second of the pattern counted at a second boundary (R126). -/
def Stirrer.counted (t : Stirrer) (set : SampleSet) : Stirrer := if set.boundary then t.patternSecond else t

theorem stirrerWork_moving (moving : s.stirrer.state.moving = true) (unstalled : ¬stallDue s.stirrer set = true) :
    stirrerWork set s = { s with stirrer := (s.stirrer.worked set).counted set } := by
  simp only [stirrerWork, stirrerStateSet_moving moving unstalled, moving, Bool.and_true, Stirrer.counted]
  split <;> rfl

/-- A set that does not stall a stirrer in motion: the work of the state, then the second of the pattern (R124 to R126). -/
theorem exec_set_moving (high : s.resetN = true) (queued : s.inbox.stirrer = set :: rest)
    (moving : s.stirrer.state.moving = true)
    (unstalled : ¬(s.stirrer.state = .running ∧ 100 * (10 * set.tach) < 30 * levelSpeed s.stirrer.drivenLevel ∧
      9 ≤ s.stirrer.stallCount)) :
    exec .stirrerSampleSet s = .next { lidTested set rest s with
      stirrer := ((lidTested set rest s).stirrer.worked set).counted set } :=
  exec_stirrerSampleSet high queued (stirrerWork_moving moving (mt (stallDue_iff _ set).1 unstalled))

/-! ## The pattern position (R126) -/

theorem Stirrer.patternSecond_none (none : t.patternPos = none) : t.patternSecond = t := by
  simp only [Stirrer.patternSecond, none]

theorem Stirrer.patternSecond_within {p : PatternPos} (pos : t.patternPos = some p) (more : 1 < p.left) :
    t.patternSecond = { t with patternPos := some ⟨p.on, p.left - 1⟩ } := by
  simp only [Stirrer.patternSecond, pos, if_neg (Nat.not_le.2 more)]

theorem Stirrer.patternSecond_ends {on : Bool} (pos : t.patternPos = some ⟨on, 1⟩) : t.patternSecond = t.phaseEnd on := by
  simp only [Stirrer.patternSecond, pos, Nat.le_refl, if_true]

theorem Stirrer.worked_patternPos (t : Stirrer) (set : SampleSet) : (t.worked set).patternPos = t.patternPos := by
  unfold Stirrer.worked; split <;> rfl

/-- Where no phase ends, a boundary takes a second from the phase. -/
theorem Stirrer.worked_counted (t : Stirrer)
    (within : set.boundary = true → ∀ p, t.patternPos = some p → 1 < p.left) :
    (t.worked set).counted set = { t.worked set with
      patternPos := if set.boundary = true then t.patternPos.map fun p => ⟨p.on, p.left - 1⟩ else t.patternPos } := by
  rw [← t.worked_patternPos set] at within ⊢
  unfold Stirrer.counted
  split
  · next boundary =>
    cases pos : (t.worked set).patternPos with
    | none => rw [Stirrer.patternSecond_none pos, Option.map_none, ← pos]
    | some p => rw [Stirrer.patternSecond_within pos (within boundary p pos), Option.map_some]
  · rfl

/-- In STOPPING a second moves at most the pattern position: no drive is started or stopped. -/
theorem Stirrer.patternSecond_stopping (stopping : t.state = .stopping) :
    ∃ pos, t.patternSecond = { t with patternPos := pos } := by
  cases pos : t.patternPos with
  | none => exact ⟨t.patternPos, Stirrer.patternSecond_none pos⟩
  | some p =>
    unfold Stirrer.patternSecond Stirrer.phaseEnd
    simp only [pos, stopping, reduceCtorEq, or_self, if_false]
    (repeat' split) <;> exact ⟨_, rfl⟩

/-! ## A set in motion that neither stalls nor ends a phase (R124, R125) -/

/-- In SPINUP and RUNNING the work of a set is the duty and, in RUNNING, the stall count. -/
theorem Stirrer.worked_driven (driven : t.state = .spinup ∨ t.state = .running) (set : SampleSet) :
    t.worked set = { t with
      duty := dutyAfter t.duty t.drivenLevel set.tach
      stallCount := if t.state = .spinup then t.stallCount
        else if 100 * (10 * set.tach) < 30 * levelSpeed t.drivenLevel then t.stallCount + 1 else 0 } := by
  refine if_neg fun off => ?_
  rw [off] at driven
  exact driven.elim nofun nofun

theorem Stirrer.worked_off (off : t.state = .intervalOff) (set : SampleSet) :
    t.worked set = { t with zeroCount := if set.tach = 0 then min 3 (t.zeroCount + 1) else 0 } := if_pos off

/-- The end of an ON phase takes the drive off (R126). -/
theorem Stirrer.worked_phaseEnd_on (driven : t.state = .spinup ∨ t.state = .running) (set : SampleSet) :
    (t.worked set).phaseEnd true = { t with
      patternPos := some ⟨false, t.setting.offSeconds⟩
      state := .intervalOff, duty := 0, spinTimer := .stopped, zeroCount := 0
      stallCount := if t.state = .spinup then t.stallCount
        else if 100 * (10 * set.tach) < 30 * levelSpeed t.drivenLevel then t.stallCount + 1 else 0 } := by
  rw [Stirrer.worked_driven driven]
  exact if_pos driven

/-- The end of an OFF phase starts the drive (R126). -/
theorem Stirrer.worked_phaseEnd_off (off : t.state = .intervalOff) (set : SampleSet) :
    (t.worked set).phaseEnd false = { t with
      zeroCount := if set.tach = 0 then min 3 (t.zeroCount + 1) else 0
      patternPos := some ⟨true, t.setting.onSeconds⟩
      drivenLevel := t.setting.level, drivenDirection := t.setting.direction
      state := .spinup, duty := 8 * t.setting.level, stallCount := 0, spinTimer := .running } := by
  rw [Stirrer.worked_off off]
  refine (if_pos off).trans ?_
  rw [Stirrer.startDrive_on _ (by simp)]

theorem moving_of_driven {state : StirrerState} (driven : state = .spinup ∨ state = .running) : state.moving = true :=
  (moving_iff _).2 (driven.imp_right .inl)

/-- Settles O17: the work of the set moves the duty and the stall count, and its boundary the pattern position. -/
theorem speedIsRegulatedAtEachSampleSet : Obligations.SpeedIsRegulatedAtEachSampleSet := by
  intro s set rest high queued within driven unstalled
  have answers := exec_set_moving high queued (moving_of_driven driven) unstalled
  rw [(lidTested set rest s).stirrer.worked_counted within, Stirrer.worked_driven (t := (lidTested set rest s).stirrer) driven]
    at answers
  refine ⟨_, answers, dutyAfter_below, dutyAfter_above, dutyAfter_within, fun running => if_neg ?_,
    fun spinup => if_pos spinup, lidTested_lidSense set rest s, rfl, rfl, rfl, rfl⟩
  exact ne_of_eq_of_ne running nofun

/-! ## The stall (R125) -/

theorem runningSet_stalls (below : slow s.stirrer set = true) (tenth : 9 ≤ s.stirrer.stallCount) :
    runningSet set s =
      report .stall { s with stirrer := { s.stirrer.goStopping with suspended := true, stallCount := 0 } } := by
  simp only [runningSet, below, tenth, if_true]

/-- The stall suspends the stirrer and takes it to STOPPING; a second of the pattern is still counted (log entry 15). -/
theorem stirrerWork_stalls (running : s.stirrer.state = .running) (below : slow s.stirrer set = true)
    (tenth : 9 ≤ s.stirrer.stallCount) :
    ∃ pos, stirrerWork set s = report .stall { s with
      stirrer := { s.stirrer.goStopping with suspended := true, stallCount := 0, patternPos := pos } } := by
  obtain ⟨pos, second⟩ := Stirrer.patternSecond_stopping
    (t := { s.stirrer.goStopping with suspended := true, stallCount := 0 }) rfl
  have stalls := (stirrerStateSet_running running set).trans (runningSet_stalls below tenth)
  unfold stirrerWork
  rw [stalls]
  split
  · refine ⟨pos, ?_⟩
    simp only [report_frame, second]
    rfl
  · exact ⟨_, rfl⟩

/-- A set that stalls the stirrer, as a whole (R125). -/
theorem exec_set_stalls (high : s.resetN = true) (queued : s.inbox.stirrer = set :: rest)
    (running : s.stirrer.state = .running) (below : 100 * (10 * set.tach) < 30 * levelSpeed s.stirrer.drivenLevel)
    (tenth : 9 ≤ s.stirrer.stallCount) :
    ∃ pos, exec .stirrerSampleSet s = .next (report .stall { lidTested set rest s with
      stirrer := { (lidTested set rest s).stirrer.goStopping with
        suspended := true, stallCount := 0, patternPos := pos } }) := by
  obtain ⟨pos, work⟩ := stirrerWork_stalls (s := lidTestedSeen set rest s) running ((slow_iff _ set).2 below) tenth
  exact ⟨pos, exec_stirrerSampleSet high queued work⟩

/-- Settles O18: the tenth slow set is a stall whichever of the two rows names it. -/
theorem tenSlowSetsStallTheStirrer : Obligations.TenSlowSetsStallTheStirrer := by
  intro s set rest high queued running below nine
  obtain ⟨pos, answers⟩ := exec_set_stalls high queued running below nine.ge
  have due : stallDue s.stirrer set = true := (stallDue_iff _ _).2 ⟨running, below, nine.ge⟩
  exact ⟨_, (ran_stirrerCase high queued due).trans answers, answers, rfl, rfl, rfl, rfl, rfl, rfl, rfl, rfl,
    motorPwm_of_idle nofun nofun, lidTested_lidSense set rest s, rfl, rfl⟩

/-! ## The phases of an INTERVAL pattern (R126) -/

theorem phaseEndDue_iff (t : Stirrer) (set : SampleSet) : phaseEndDue t set = true ↔
    set.boundary = true ∧ t.state.moving = true ∧ ∃ p, t.patternPos = some p ∧ p.left ≤ 1 := by
  unfold phaseEndDue
  cases t.patternPos <;> simp [and_assoc]

/-- A boundary that ends a phase of a stirrer in motion, by either row. -/
theorem exec_phase_end (high : s.resetN = true) (queued : s.inbox.stirrer = set :: rest) (boundary : set.boundary = true)
    {on : Bool} (last : s.stirrer.patternPos = some ⟨on, 1⟩) (moving : s.stirrer.state.moving = true)
    (unstalled : ¬(s.stirrer.state = .running ∧ 100 * (10 * set.tach) < 30 * levelSpeed s.stirrer.drivenLevel ∧
      9 ≤ s.stirrer.stallCount)) :
    let t := { lidTested set rest s with stirrer := ((lidTested set rest s).stirrer.worked set).phaseEnd on }
    exec .intervalPhaseEnd s = .next t ∧ exec .stirrerSampleSet s = .next t := by
  intro t
  have due : phaseEndDue s.stirrer set = true := (phaseEndDue_iff _ _).2 ⟨boundary, moving, _, last, Nat.le_refl _⟩
  have pos : ((lidTested set rest s).stirrer.worked set).patternPos = some ⟨on, 1⟩ := by
    unfold Stirrer.worked; split <;> exact last
  have ended : ((lidTested set rest s).stirrer.worked set).counted set = t.stirrer :=
    (if_pos boundary).trans (Stirrer.patternSecond_ends pos)
  have answers := exec_set_moving high queued moving unstalled
  rw [ended] at answers
  exact ⟨(ran_stirrerCase high queued due).trans answers, answers⟩

/-- Settles O22: a boundary takes a second from a phase in INTERVAL_OFF, and the last one of a phase begins the other. -/
theorem intervalPhasesTakeTurns : Obligations.IntervalPhasesTakeTurns := by
  intro s on set rest high queued boundary watched
  have lid := lidTested_lidSense set rest s
  refine ⟨fun left more pos off => ?seconds, fun last unstalled => ⟨fun isOn driven => ?onEnds, fun isOff off => ?offEnds⟩⟩
  case seconds =>
    have moving : s.stirrer.state.moving = true := by rw [off]; rfl
    have answers := exec_set_moving high queued moving (by simp [off])
    have within : set.boundary = true → ∀ p, s.stirrer.patternPos = some p → 1 < p.left := by
      intro _ p same
      obtain rfl : p = ⟨on, left⟩ := Option.some.inj (same.symm.trans pos)
      exact more
    rw [(lidTested set rest s).stirrer.worked_counted within,
      Stirrer.worked_off (t := (lidTested set rest s).stirrer) off, if_pos boundary] at answers
    refine ⟨_, answers, ⟨lid, rfl⟩, ?_, rfl⟩
    simp only [lidTested, pos, Option.map_some]
  case onEnds =>
    subst isOn
    obtain ⟨row, answers⟩ := exec_phase_end high queued boundary last (moving_of_driven driven) unstalled
    rw [Stirrer.worked_phaseEnd_on (t := (lidTested set rest s).stirrer) driven] at row answers
    exact ⟨_, row, answers, ⟨lid, rfl⟩, rfl, rfl, rfl, rfl, rfl, motorPwm_of_idle nofun nofun, rfl, rfl, rfl, rfl⟩
  case offEnds =>
    subst isOff
    obtain ⟨row, answers⟩ := exec_phase_end high queued boundary last (by rw [off]; rfl) unstalled
    rw [Stirrer.worked_phaseEnd_off (t := (lidTested set rest s).stirrer) off] at row answers
    exact ⟨_, row, answers, ⟨lid, rfl⟩, rfl, rfl, rfl, rfl, rfl, rfl, rfl, rfl⟩

/-! ## A stirrer that stops or stands (R122, R123) -/

/-- Outside motion a set is the work of the state alone (R126). -/
theorem stirrerWork_still (still : s.stirrer.state.moving = false) (set : SampleSet) :
    stirrerWork set s = stirrerStateSet set s := if_neg (by simp [still])

theorem stirrerWork_locking (locking : s.stirrer.state = .locking) (set : SampleSet) : stirrerWork set s = s := by
  rw [stirrerWork_still (by rw [locking]; rfl)]
  simp only [stirrerStateSet, locking]

theorem stirrerWork_stopping (stopping : s.stirrer.state = .stopping) (set : SampleSet) :
    stirrerWork set s = stoppingSet set s := by
  rw [stirrerWork_still (by rw [stopping]; rfl)]
  simp only [stirrerStateSet, stopping]

theorem stirrerWork_stopped (stopped : s.stirrer.state = .stopped) (set : SampleSet) :
    stirrerWork set s = stoppedSet set s := by
  rw [stirrerWork_still (by rw [stopped]; rfl)]
  simp only [stirrerStateSet, stopped]

theorem stillCount_turning (turning : set.tach ≠ 0) (count : Nat) : stillCount count set = 0 := if_neg turning

theorem stillCount_still (still : set.tach = 0) (count : Nat) : stillCount count set = count + 1 := if_pos still

/-- Below three sets at 0 rpm STOPPING goes on (R122). -/
theorem stoppingSet_counts {n : Nat} (count : stillCount s.stirrer.zeroCount set = n) (few : n < 3) :
    stoppingSet set s = { s with stirrer := { s.stirrer with zeroCount := n } } := by
  subst count; exact if_neg (Nat.not_le.2 few)

theorem stoppingSet_ends (third : stillCount s.stirrer.zeroCount set = 3) :
    stoppingSet set s =
      actOnSetting { s with stirrer := { s.stirrer with zeroCount := 3, state := .stopped, releaseCount := 0 } } := by
  simp only [stoppingSet, third, Nat.le_refl, if_true]

/-- The lock is counted toward its release in STOPPED where it is DRIVEN and not needed (R123). -/
theorem stoppedSet_kept (kept : s.stirrer.lockDriven = false ∨ 5 ≤ s.stirrer.setting.level) : stoppedSet set s = s := by
  refine if_neg ?_
  rcases kept with released | fast
  · simp [released]
  · simp [(needsLock_iff _).2 fast]

section Freeing

variable (driven : s.stirrer.lockDriven = true) (slow : s.stirrer.setting.level < 5)

include driven slow

theorem stoppedSet_freeing : stoppedSet set s =
    if 5 ≤ stillCount s.stirrer.releaseCount set then
      actOnSetting { s with stirrer := { s.stirrer with lockDriven := false, releaseCount := 0 } }
    else { s with stirrer := { s.stirrer with releaseCount := stillCount s.stirrer.releaseCount set } } :=
  if_pos (by simp [driven, (needsLock_eq_false_iff _).2 slow])

/-- Below five sets at 0 rpm the lock stays DRIVEN (R123). -/
theorem stoppedSet_counts {n : Nat} (count : stillCount s.stirrer.releaseCount set = n) (few : n < 5) :
    stoppedSet set s = { s with stirrer := { s.stirrer with releaseCount := n } } := by
  subst count; exact (stoppedSet_freeing driven slow).trans (if_neg (Nat.not_le.2 few))

theorem stoppedSet_releases (fifth : stillCount s.stirrer.releaseCount set = 5) :
    stoppedSet set s =
      actOnSetting { s with stirrer := { s.stirrer with lockDriven := false, releaseCount := 0 } } :=
  (stoppedSet_freeing driven slow).trans (if_pos fifth.ge)

end Freeing

/-- A setting that does not need the lock asks for none: the released lock stays released (R119). -/
theorem actOnSetting_released (released : s.stirrer.lockDriven = false) (slow : s.stirrer.setting.level < 5) :
    (actOnSetting s).stirrer.lockDriven = false ∧ (actOnSetting s).stirrer.releaseCount = s.stirrer.releaseCount := by
  by_cases stays : s.stirrer.suspended = true ∨ s.stirrer.setting.level = 0 ∨ s.pins.bowlSeated = false
  · rw [actOnSetting_stays (stays.imp_right (.imp_right .inr))]
    exact ⟨released, rfl⟩
  · simp only [not_or, Bool.not_eq_true, Bool.not_eq_false] at stays
    obtain ⟨live, turning, seated⟩ := stays
    obtain ⟨-, -, lock, -, count, -⟩ := s.stirrer.startDrive_fields
    rw [actOnSetting_starts live seated (Nat.pos_of_ne_zero turning)
      (released.trans ((needsLock_eq_false_iff _).2 slow).symm) fun fast => absurd fast (Nat.not_le.2 slow)]
    exact ⟨lock.trans released, count⟩

theorem stoppingEndDue_iff (t : Stirrer) (set : SampleSet) :
    stoppingEndDue t set = true ↔ t.state = .stopping ∧ 3 ≤ stillCount t.zeroCount set := by
  simp [stoppingEndDue]

theorem lockReleaseDue_iff (t : Stirrer) (set : SampleSet) : lockReleaseDue t set = true ↔
    t.state = .stopped ∧ t.lockDriven = true ∧ t.setting.level < 5 ∧ 5 ≤ stillCount t.releaseCount set := by
  simp [lockReleaseDue, needsLock_eq_false_iff, and_assoc]

/-- Settles O21: the counts of sets at 0 rpm, and the setting acted on as the set's own lid switch has it. -/
theorem standstillEndsStoppingAndFreesTheLock : Obligations.StandstillEndsStoppingAndFreesTheLock := by
  intro s set rest high queued contradict u
  have tested : u = lidTested set rest s := by simp only [u, contradict, lidTested, and_assoc]
  clear_value u
  subst tested
  have answers {v : State} := exec_stirrerSampleSet high queued (v := v)
  refine ⟨fun locking => answers (stirrerWork_locking (s := lidTestedSeen set rest s) locking set), ?_⟩
  intro acts
  refine ⟨fun stopping => ?stopping, fun stopped => ⟨fun kept => ?kept, fun driven slow => ?freeing⟩,
    fun off between => ?off⟩
  case stopping =>
    have work := stirrerWork_stopping (s := lidTestedSeen set rest s) stopping set
    refine ⟨fun turning => ?_, fun still few => ?_, fun still two => ?_⟩
    · exact answers (work.trans (stoppingSet_counts (stillCount_turning turning _) (by decide)))
    · exact answers (work.trans (stoppingSet_counts (stillCount_still still _) (Nat.succ_lt_succ few)))
    · have third : stillCount s.stirrer.zeroCount set = 3 := by rw [stillCount_still still, two]
      have ends := answers (work.trans (stoppingSet_ends third))
      exact ⟨_, (ran_stirrerCase high queued ((stoppingEndDue_iff _ _).2 ⟨stopping, third.ge⟩)).trans ends, ends, rfl⟩
  case kept => exact answers ((stirrerWork_stopped (s := lidTestedSeen set rest s) stopped set).trans (stoppedSet_kept kept))
  case freeing =>
    have work := stirrerWork_stopped (s := lidTestedSeen set rest s) stopped set
    have counts {n : Nat} := stoppedSet_counts (s := lidTestedSeen set rest s) (set := set) driven slow (n := n)
    refine ⟨fun turning => ?_, fun still few => ?_, fun still four => ?_⟩
    · exact answers (work.trans (counts (stillCount_turning turning _) (by decide)))
    · exact answers (work.trans (counts (stillCount_still still _) (Nat.succ_lt_succ few)))
    · have fifth : stillCount s.stirrer.releaseCount set = 5 := by rw [stillCount_still still, four]
      have due := (lockReleaseDue_iff s.stirrer set).2 ⟨stopped, driven, slow, fifth.ge⟩
      have releases := answers (work.trans (stoppedSet_releases (s := lidTestedSeen set rest s) driven slow fifth))
      obtain ⟨released, count⟩ := actOnSetting_released (s := { lidTestedSeen set rest s with
        stirrer := { (lidTestedSeen set rest s).stirrer with lockDriven := false, releaseCount := 0 } }) rfl slow
      exact ⟨_, (ran_stirrerCase high queued due).trans releases, releases, released, count, rfl⟩
  case off =>
    have moves := exec_set_moving high queued (by rw [off]; rfl) (by simp [off])
    rw [Stirrer.worked_off (t := (lidTested set rest s).stirrer) off] at moves
    exact moves.trans (by simp only [Stirrer.counted, between]; rfl)

end Sys2Proof.Machine
end

-- ==== Weights, history and steadiness at a sample set ====
section
/-! SUPPORT. The history of five and its span, and a sample set without a weigh phase (R132, R133). -/

namespace Sys2Proof.Machine

variable {s : State}

/-! ## The history of five (R132) -/

theorem pushWeight_of_room {history : List Int} (room : history.length < 5) (w : Int) :
    pushWeight history w = history ++ [w] := if_neg (by simp; omega)

/-- A weight that joins five drops the oldest. -/
theorem pushWeight_of_full {history : List Int} (full : history.length = 5) (w : Int) :
    pushWeight history w = history.tail ++ [w] := by
  have oldest : history ≠ [] := List.ne_nil_of_length_pos (by omega)
  have six : 5 < (history ++ [w]).length := by simp [full]
  rw [pushWeight, if_pos six, List.drop_one, List.tail_append_of_ne_nil oldest]

/-! ## Steadiness (R133) -/

/-- The span is the largest difference of two weights: the largest and the smallest weight are two of them. -/
theorem span_le_iff {history : List Int} (weighed : history ≠ []) (limit : Int) :
    span history ≤ limit ↔ ∀ a ∈ history, ∀ b ∈ history, a - b ≤ limit := by
  obtain ⟨w, ws, rfl⟩ := List.exists_cons_of_ne_nil weighed
  obtain ⟨largest, above⟩ := List.max?_eq_some_iff.1 (List.max?_cons' (x := w) (xs := ws))
  obtain ⟨smallest, below⟩ := List.min?_eq_some_iff.1 (List.min?_cons' (x := w) (xs := ws))
  constructor
  · intro within a ha b hb
    exact (sub_le_sub (above a ha) (below b hb)).trans within
  · exact fun near => near _ largest _ smallest

theorem isSteady_iff (history : List Int) (stirred : Nat) : isSteady history stirred = true ↔
    history.length = 5 ∧ stirred ≤ 2 ∧
      ∀ a ∈ history, ∀ b ∈ history, a - b ≤ if stirred = 0 then 2 else 6 := by
  rw [isSteady, Bool.and_eq_true, decide_eq_true_eq]
  refine and_congr_right fun five => ?_
  have limits := span_le_iff (List.ne_nil_of_length_pos (by omega : 0 < history.length))
  by_cases still : stirred = 0
  · simp [still, limits]
  · by_cases slow : stirred ≤ 2
    · simp [still, slow, limits]
    · simp [still, slow]

/-! ## A set without a weigh phase (R132, R133) -/

theorem phaseSet_idle (phase : s.scale.phase = .none) (set : SampleSet) : phaseSet set s = s := by
  by_cases weight : hasWeight s.handler.cpk set.wgt = true
  · have done : phaseDone set.wgt s = s := by rw [phaseDone, phaseWork_none phase, ite_self]
    rw [phaseSet_weight weight, done, weightTest, phase]
    rfl
  · exact phaseSet_weightless weight

theorem Scale.weighSet_weight (c : Scale) {set : SampleSet} {cpk : Nat} (weight : hasWeight cpk set.wgt = true)
    (zeroCount stirred : Nat) :
    c.weighSet set zeroCount cpk stirred = c.weigh set.wgt (grams set.wgt zeroCount cpk) stirred := if_pos weight

theorem Scale.weighSet_weightless (c : Scale) {set : SampleSet} {cpk : Nat} (weightless : ¬hasWeight cpk set.wgt = true)
    (zeroCount stirred : Nat) : c.weighSet set zeroCount cpk stirred = { c with history := [], steady := false } :=
  if_neg weightless

/-- Without a weigh phase the scale weighs the set, and nothing else follows. -/
theorem scaleSampleSet_idle {set : SampleSet} {rest : List SampleSet} (high : s.resetN = true)
    (queued : s.inbox.scale = set :: rest) (phase : s.scale.phase = .none) :
    exec .scaleSampleSet s = .next { s with
      scale := { s.scale.weighSet set s.handler.zero s.handler.cpk s.stirrer.stirredLevel with
        early := s.scale.early - 1 }
      inbox := { s.inbox with scale := rest } } := by
  obtain ⟨kept, -, early⟩ := weighSet_phase s.scale set s.handler.zero s.handler.cpk s.stirrer.stirredLevel
  have taken : takeScaleSet scaleSetOp s = scaleSetOp set { s with inbox := { s.inbox with scale := rest } } := by
    simp only [takeScaleSet, queued]
  refine (ran_of_high _ _ high).trans (congrArg _ (taken.trans ?_))
  rw [scaleSetOp, phaseSet_idle (kept.trans phase), countEarly, early]

/-- Settles O25: the set is weighed when it has a weight; the history takes it and is tested for steadiness. -/
theorem scaleWeighsEachSet : Obligations.ScaleWeighsEachSet := by
  intro s set rest high queued phase
  have weighs := hasWeight_iff s.handler.cpk set.wgt
  refine ⟨_, scaleSampleSet_idle high queued phase, fun weightless => ?weightless, fun calibrated low high => ?weight, rfl⟩
  case weightless => rw [Scale.weighSet_weightless _ (by rw [weighs]; omega)]
  case weight =>
    rw [Scale.weighSet_weight _ (weighs.2 ⟨calibrated, low, high⟩)]
    exact ⟨rfl, rfl, fun room => ⟨_, rfl, pushWeight_of_room room _⟩, fun full => ⟨_, rfl, pushWeight_of_full full _⟩,
      isSteady_iff _ _, rfl⟩

end Sys2Proof.Machine
end

-- ==== TARE and SETUP at the scale ====
section
/-! SUPPORT. TARE by the engine's state and the steady flag, the checks of a SETUP in order, and what it sets (R131, R139,
R181). -/

namespace Sys2Proof.Machine

variable {s : State} {src : Station} {dst : Dest}

/-! ## TARE (R139) -/

theorem tareAct_steady (idle : s.engine.state = .idle ∨ s.engine.state = .ended) (steady : s.scale.steady = true)
    {count : Nat} (latest : s.scale.latestCount = some count) :
    tareAct s = (.done, { s with scale := { s.scale with reference := count } }) := by
  have tared : s.scale.tare = { s.scale with reference := count } := by simp only [Scale.tare, latest]
  rw [tareAct, if_pos idle, if_pos steady, tared]

theorem tareAct_unsteady (idle : s.engine.state = .idle ∨ s.engine.state = .ended) (unsteady : s.scale.steady = false) :
    tareAct s = (.notSteady, s) := by
  rw [tareAct, if_pos idle, if_neg (Bool.eq_false_iff.1 unsteady)]

theorem tareAct_refused (notIdle : s.engine.state ≠ .idle) (notEnded : s.engine.state ≠ .ended) :
    tareAct s = (.refusedState, s) := if_neg (not_or.2 ⟨notIdle, notEnded⟩)

/-! ## The checks of a SETUP (R181) -/

/-- The engine's states in which a SETUP of the panel station is refused. -/
def SetupBusy (s : State) : Prop :=
  s.engine.state = .run ∨ s.engine.state = .hold ∨ (s.engine.state = .fault ∧ s.handler.panel ≠ none)

theorem setupRefusal_notPanel (set : s.handler.panel ≠ none) (other : s.handler.panel ≠ some src) :
    setupRefusal src s = some .notPanel := if_pos ⟨set, other⟩

/-- A SETUP that the panel check lets pass is refused by the engine's state alone. -/
theorem setupRefusal_panel (panel : s.handler.panel = none ∨ s.handler.panel = some src) :
    (SetupBusy s → setupRefusal src s = some .refusedState) ∧ (¬SetupBusy s → setupRefusal src s = none) := by
  have passes : ¬(s.handler.panel ≠ none ∧ s.handler.panel ≠ some src) := fun ⟨set, other⟩ => panel.elim set other
  have busy : (s.engine.state.active = true ∨ s.engine.state = .fault ∧ s.handler.panel ≠ none) ↔ SetupBusy s := by
    rw [active_iff, or_assoc, SetupBusy]
  rw [setupRefusal, if_neg passes]
  exact ⟨fun refuses => if_pos (busy.2 refuses), fun free => if_neg (busy.not.2 free)⟩

theorem setupBadField_eq (zero cpk : Word16) (probe : Byte) : setupBadField zero cpk probe =
    if ¬(1000 ≤ zero.toNat ∧ zero.toNat ≤ 60000) then some 1
    else if ¬(1000 ≤ cpk.toNat ∧ cpk.toNat ≤ 20000) then some 2
    else if 1 < probe.toNat then some 3 else none := by
  simp only [setupBadField, within_eq, Bool.not_eq_true', decide_eq_false_iff_not]

/-- The ranges of Table 11-3. -/
def SetupInRange (zero cpk : Word16) (probe : Byte) : Prop :=
  (1000 ≤ zero.toNat ∧ zero.toNat ≤ 60000) ∧ (1000 ≤ cpk.toNat ∧ cpk.toNat ≤ 20000) ∧ probe.toNat ≤ 1

theorem setupBadField_good {zero cpk : Word16} {probe : Byte} (good : SetupInRange zero cpk probe) :
    setupBadField zero cpk probe = none := by
  obtain ⟨zeroIn, cpkIn, probeIn⟩ := good
  rw [setupBadField_eq, if_neg (not_not.2 zeroIn), if_neg (not_not.2 cpkIn), if_neg (Nat.not_lt.2 probeIn)]

/-- The first field out of its range is the detail of BAD_FIELD. -/
theorem setupBadField_bad {zero cpk : Word16} {probe : Byte} (bad : ¬SetupInRange zero cpk probe) :
    setupBadField zero cpk probe = some (if ¬(1000 ≤ zero.toNat ∧ zero.toNat ≤ 60000) then 1
      else if ¬(1000 ≤ cpk.toNat ∧ cpk.toNat ≤ 20000) then 2 else 3) := by
  rw [setupBadField_eq]
  by_cases zeroIn : 1000 ≤ zero.toNat ∧ zero.toNat ≤ 60000
  · by_cases cpkIn : 1000 ≤ cpk.toNat ∧ cpk.toNat ≤ 20000
    · have probeOut : 1 < probe.toNat := Nat.lt_of_not_le fun probeIn => bad ⟨zeroIn, cpkIn, probeIn⟩
      simp only [zeroIn, cpkIn, probeOut, if_true, not_true_eq_false, if_false, and_self]
    · simp only [zeroIn, cpkIn, if_true, not_true_eq_false, not_false_eq_true, if_false, and_self]
  · simp only [zeroIn, not_false_eq_true, if_true]

/-! ## A directed SETUP and its reply (R181) -/

section Replies

variable (directed : Directed src dst s) {zero cpk : Word16} {probe : Byte}
include directed

theorem setup_refused {refusal : ResultCode} (refused : setupRefusal src (noted src s) = some refusal) :
    exec (.setup src dst zero cpk probe) s = .next
      (setReplySlot (some ⟨src, 4, refusal, 0, statusData (noted src s)⟩) (noted src s)) := by
  refine ran_takeRequest directed ?_
  simp only [handleSetup, refused]
  rfl

theorem setup_badField {field : Nat} (passed : setupRefusal src (noted src s) = none)
    (bad : setupBadField zero cpk probe = some field) :
    exec (.setup src dst zero cpk probe) s = .next
      (setReplySlot (some ⟨src, 4, .badField, u8 field, statusData (noted src s)⟩) (noted src s)) := by
  refine ran_takeRequest directed ?_
  simp only [handleSetup, passed, bad]
  rfl

theorem setup_done (passed : setupRefusal src (noted src s) = none) (good : setupBadField zero cpk probe = none) :
    let t := setupTaken src zero cpk probe (noted src s)
    exec (.setup src dst zero cpk probe) s = .next (setReplySlot (some ⟨src, 4, .done, 0, statusData t⟩) t) := by
  refine ran_takeRequest directed ?_
  simp only [handleSetup, passed, good]
  rfl

end Replies

/-- What a SETUP of the panel station, or of the first one, sets (R131, R181). -/
theorem setupTaken_eq (panel : s.handler.panel = none ∨ s.handler.panel = some src) (zero cpk : Word16) (probe : Byte) :
    setupTaken src zero cpk probe s = { s with
      handler := { s.handler with
        zero := zero.toNat, cpk := cpk.toNat, probe := decide (probe = 1), panel := some src }
      scale := { s.scale with
        reference := zero.toNat, history := [], steady := false, latestCount := none, latestGross := none }
      engine := if s.engine.state = .unready then { s.engine with state := .idle } else s.engine } := by
  have station : s.handler.panel.getD src = src := by rcases panel with panel | panel <;> rw [panel] <;> rfl
  have present : decide (probe.toNat = 1) = decide (probe = 1) :=
    decide_eq_decide.2 (BitVec.toNat_inj (x := probe) (y := 1))
  rw [setupTaken, station, present]
  rfl

/-- Settles O45: the cases of TARE, then the checks of a SETUP one after the other, each at the noted state. -/
theorem tareAndSetupSetTheScale : Obligations.TareAndSetupSetTheScale := by
  constructor
  · intro src dst s panel n
    have scale : n.scale = s.scale := by simp [n]
    have engine : n.engine = s.engine := by simp [n]
    simp only [← scale, ← engine]
    have answers := fun r t => ran_takeCommand (r := r) (t := t) panel tareAct
    exact ⟨fun idle => ⟨fun count steady latest => answers _ _ (tareAct_steady idle steady latest),
      fun unsteady => answers _ _ (tareAct_unsteady idle unsteady)⟩,
      fun notIdle notEnded => answers _ _ (tareAct_refused notIdle notEnded)⟩
  · intro src dst zero cpk probe s directed n busy zeroGood cpkGood
    have handler : n.handler = s.handler := by simp [n]
    have scale : n.scale = s.scale := by simp [n]
    have engine : n.engine = s.engine := by simp [n]
    refine ⟨fun set other => ?notPanel, fun panel => ?panel⟩
    case notPanel =>
      exact setup_refused directed (setupRefusal_notPanel (handler.symm ▸ set) (handler.symm ▸ other))
    case panel =>
      obtain ⟨refused, passed⟩ := setupRefusal_panel (s := n) (handler.symm ▸ panel)
      have same : SetupBusy n ↔ busy := by simp only [SetupBusy, handler, engine, busy]
      refine ⟨fun isBusy => setup_refused directed (refused (same.2 isBusy)), fun free bad => ?bad,
        fun free zeroIn cpkIn probeIn => ?done⟩
      case bad =>
        have answer := setup_badField directed (passed (same.not.2 free)) (setupBadField_bad bad)
        rw [apply_ite u8, apply_ite u8] at answer
        exact answer
      case done =>
        have done := setup_done directed (passed (same.not.2 free)) (setupBadField_good ⟨zeroIn, cpkIn, probeIn⟩)
        rw [setupTaken_eq (handler.symm ▸ panel), handler, scale, engine] at done
        exact done

end Sys2Proof.Machine
end

-- ==== The cells of a frame, and what a sender reads back ====
section
/-! SUPPORT. The numbers that bits spell, the cells of a frame, and the commands that the cells read back are (R167 to R169,
R171). -/

namespace Sys2Proof

/-! ## The number that bits spell (section 11.1) -/

/-- The bits after a number read so far. -/
theorem foldl_bits (bits : List Bool) (n : Nat) :
    bits.foldl (fun n b => 2 * n + b.toNat) n = n * 2 ^ bits.length + bitsNat bits := by
  induction bits generalizing n with
  | nil => simp [bitsNat]
  | cons b bits ih =>
    have later := ih b.toNat
    simp only [bitsNat, List.foldl_cons, List.length_cons, ih (2 * n + b.toNat), Nat.mul_zero, Nat.zero_add, later]
    ring

theorem bitsNat_cons (b : Bool) (bits : List Bool) :
    bitsNat (b :: bits) = b.toNat * 2 ^ bits.length + bitsNat bits := by
  rw [bitsNat, List.foldl_cons, foldl_bits, Nat.mul_zero, Nat.zero_add]

theorem bitsNat_append (bits more : List Bool) :
    bitsNat (bits ++ more) = bitsNat bits * 2 ^ more.length + bitsNat more := by
  rw [bitsNat, List.foldl_append, foldl_bits]
  rfl

theorem bitsNat_lt (bits : List Bool) : bitsNat bits < 2 ^ bits.length := by
  induction bits with
  | nil => decide
  | cons b bits ih =>
    have bit := Nat.mul_le_mul_right (2 ^ bits.length) (Bool.toNat_le b)
    rw [bitsNat_cons, List.length_cons, pow_succ]
    omega

@[simp] theorem natBits_length (width n : Nat) : (natBits width n).length = width := by
  induction width with
  | zero => rfl
  | succ width ih => rw [natBits, List.length_cons, ih]

theorem bitsNat_natBits (width n : Nat) : bitsNat (natBits width n) = n % 2 ^ width := by
  induction width with
  | zero => simp [natBits, bitsNat, Nat.mod_one]
  | succ width ih =>
    rw [natBits, bitsNat_cons, natBits_length, ih, Nat.mod_pow_succ, Nat.testBit_eq_decide_div_mod_eq]
    rcases Nat.mod_two_eq_zero_or_one (n / 2 ^ width) with even | odd
    · simp [even]
    · simp [odd, Nat.add_comm]

/-- Where bits first differ from others with a 0 for a 1, they spell the lower number, and fewer bits a lower one still. -/
theorem bitsNat_lt_of_first {read sent : List Bool} {i : Nat} (short : read.length ≤ sent.length)
    (same : ∀ j < i, read[j]? = sent[j]?) (zero : read[i]? = some false) (one : sent[i]? = some true) :
    bitsNat read < bitsNat sent := by
  induction i generalizing read sent with
  | zero =>
    obtain ⟨read, rfl⟩ : ∃ later, read = false :: later := by cases read <;> simp_all
    obtain ⟨sent, rfl⟩ : ∃ later, sent = true :: later := by cases sent <;> simp_all
    have shorter : 2 ^ read.length ≤ 2 ^ sent.length := Nat.pow_le_pow_right (by decide) (by simpa using short)
    calc bitsNat (false :: read) = bitsNat read := by simp [bitsNat_cons]
      _ < 2 ^ read.length := bitsNat_lt read
      _ ≤ 2 ^ sent.length := shorter
      _ ≤ bitsNat (true :: sent) := by simp [bitsNat_cons]
  | succ i ih =>
    have first := same 0 (Nat.succ_pos i)
    cases read with
    | nil => simp at zero
    | cons b read =>
      obtain ⟨sent, rfl⟩ : ∃ later, sent = b :: later := by cases sent <;> simp_all
      have shorter : read.length ≤ sent.length := by simpa using short
      have later := ih shorter (fun j below => by simpa using same (j + 1) (Nat.succ_lt_succ below))
        (by simpa using zero) (by simpa using one)
      have weight := Nat.mul_le_mul_left b.toNat (Nat.pow_le_pow_right (n := 2) (by decide) shorter)
      rw [bitsNat_cons, bitsNat_cons]
      exact Nat.add_lt_add_of_le_of_lt weight later

/-! ## The cells of a frame (R167) -/

namespace WireFrame

variable (f : WireFrame)

theorem body_length : f.body.length = 35 + 8 * f.payload.length := by
  have payload : (payloadBits f.payload).length = 8 * f.payload.length := by
    simp [payloadBits, List.length_flatMap, Nat.mul_comm]
  simp only [body, covered, headerBits, List.length_cons, List.length_append, natBits_length, payload]
  omega

theorem cells_length : f.cells.length = 37 + 8 * f.payload.length := by
  rw [cells, List.length_append, body_length, List.length_cons, List.length_singleton]
  omega

/-- Up to the last CRC bit the cells of a frame are its body. -/
theorem cells_of_body {i : Nat} (inside : i < f.body.length) : f.cells[i]? = f.body[i]? :=
  List.getElem?_append_left inside

/-- The eight bits of the arbitration field: kind, then source (R167). -/
def field : List Bool := natBits 4 f.kind.val ++ natBits 4 f.src.val

theorem field_length : f.field.length = 8 := by simp [field]

theorem bitsNat_field : bitsNat f.field = 16 * f.kind.val + f.src.val := by
  rw [field, bitsNat_append, bitsNat_natBits, bitsNat_natBits, natBits_length]
  have kind := f.kind.isLt
  have src := f.src.isLt
  omega

/-- The arbitration field is in the cells behind the start cell. -/
theorem body_field {i : Nat} (inside : i < 8) : f.body[i + 1]? = f.field[i]? := by
  have split : f.body = false :: (f.field ++ (natBits 5 f.dst.val ++ natBits 5 f.payload.length ++
      payloadBits f.payload ++ natBits 16 (crc16 f.covered).toNat)) := by
    simp only [body, covered, headerBits, field, List.append_assoc]
  rw [split, List.getElem?_cons_succ, List.getElem?_append_left (by rw [field_length]; exact inside)]

end WireFrame

/-! ## The cells read back (R168, R169, R171) -/

/-- A cell as it is read back; a cell that is not there has no pulse. -/
def readCell (cells : List (Option Bool)) (i : Nat) : Option Bool := (cells[i]?).join

theorem readCell_eq_some {cells : List (Option Bool)} {i : Nat} {b : Bool} :
    readCell cells i = some b ↔ cells[i]? = some (some b) := by
  simp [readCell, Option.join_eq_some_iff]

variable {f : WireFrame} {cells : List (Option Bool)}

/-- Every cell up to the last CRC bit as sent: the verdict cells behind it decide. -/
theorem hearSent_of_sound {last : Nat} (length : f.body.length = last + 1)
    (sound : ∀ i < f.body.length, readCell cells i = f.body[i]?) :
    hearSent f cells = [.offer none, if readCell cells (last + 1) = some false ∧
      readCell cells (last + 2) ≠ some false then .ownFrameTaken else .ownFrameDropped] := by
  have echo : f.echo cells = .same := Machine.echoFrom_sound 0 f.body cells sound
  have place : last + 1 = 35 + 8 * f.payload.length := length.symm.trans f.body_length
  have takes : verdictTakes cells f.payload.length = true ↔
      readCell cells (last + 1) = some false ∧ readCell cells (last + 2) ≠ some false := by
    simp [verdictTakes, verdictLong, readCell_eq_some, ← place]
  simp only [hearSent, echo, takes]

/-- The bits of the arbitration field on the line; a cell that reads as no bit counts as a 0 (R168). -/
def fieldRead (cells : List (Option Bool)) : List Bool := ((cells.drop 1).take 8).map fun read => read.getD false

theorem arbitrationRead_le (cells : List (Option Bool)) : (arbitrationRead cells).toNat ≤ bitsNat (fieldRead cells) :=
  Nat.mod_le _ _

theorem fieldRead_length_le (cells : List (Option Bool)) : (fieldRead cells).length ≤ 8 := by
  rw [fieldRead, List.length_map]
  exact List.length_take_le _ _

theorem fieldRead_of_read {i : Nat} (inside : i < 8) {b : Bool} (read : readCell cells (i + 1) = some b) :
    (fieldRead cells)[i]? = some b := by
  rw [fieldRead, List.getElem?_map, List.getElem?_take_of_lt inside, List.getElem?_drop, Nat.add_comm,
    readCell_eq_some.1 read]
  rfl

/-- A 0 for a 1 in the arbitration field, every cell before it as sent: the field on the line is the lower one (R168). -/
theorem arbitrationRead_lt {i : Nat} (inside : i < 8) (sound : ∀ j < i + 1, readCell cells j = f.body[j]?)
    (zero : readCell cells (i + 1) = some false) (one : f.body[i + 1]? = some true) :
    (arbitrationRead cells).toNat < 16 * f.kind.val + f.src.val := by
  have same (j : Nat) (before : j < i) : (fieldRead cells)[j]? = f.field[j]? := by
    have bit : j < f.field.length := by rw [f.field_length]; omega
    have sent : f.field[j]? = some f.field[j] := List.getElem?_eq_getElem bit
    have read : readCell cells (j + 1) = some f.field[j] := by
      rw [sound (j + 1) (Nat.succ_lt_succ before), f.body_field (before.trans inside), sent]
    rw [fieldRead_of_read (before.trans inside) read, sent]
  calc (arbitrationRead cells).toNat ≤ bitsNat (fieldRead cells) := arbitrationRead_le cells
    _ < bitsNat f.field := bitsNat_lt_of_first (by rw [f.field_length]; exact fieldRead_length_le cells) same
      (fieldRead_of_read inside zero) ((f.body_field inside).symm.trans one)
    _ = 16 * f.kind.val + f.src.val := f.bitsNat_field

/-- The first cell unlike the one sent decides between a lost arbitration and an echo fault (R168, R169). -/
theorem hearSent_of_unlike {i : Nat} (inside : i < f.body.length) (sound : ∀ j < i, readCell cells j = f.body[j]?)
    (unlike : readCell cells i ≠ f.body[i]?) :
    (1 ≤ i ∧ i ≤ 8 ∧ readCell cells i = some false → ∃ r : Byte, r.toNat < 16 * f.kind.val + f.src.val ∧
      hearSent f cells = .offer (some r) :: (receive cells).toList) ∧
    (¬(1 ≤ i ∧ i ≤ 8 ∧ readCell cells i = some false) →
      hearSent f cells = .offer none :: .echoFault :: (receive cells).toList) := by
  have echo : f.echo cells = if 1 ≤ i ∧ i ≤ 8 ∧ readCell cells i = some false then .lost else .fault := by
    have first := Machine.echoFrom_first 0 f.body cells i inside sound unlike
    rwa [Nat.zero_add] at first
  refine ⟨fun lost => ⟨arbitrationRead cells, ?lower, ?lost⟩, fun fault => ?fault⟩
  case lower =>
    obtain ⟨after, within, zero⟩ := lost
    obtain ⟨j, rfl⟩ := Nat.exists_eq_add_of_le' after
    have one : f.body[j + 1]? = some true := by
      rw [List.getElem?_eq_getElem inside] at unlike ⊢
      rw [zero] at unlike
      simpa using unlike
    exact arbitrationRead_lt within sound zero one
  case lost => rw [if_pos lost] at echo; simp only [hearSent, echo]
  case fault => rw [if_neg fault] at echo; simp only [hearSent, echo]

end Sys2Proof
end

-- ==== The offer of the filled slot of lowest kind ====
section
/-! SUPPORT. The payload of a PRESENCE, the slot that is offered, and when its offer begins (R134, R146, R166, R168, R174). -/

namespace Sys2Proof.Machine

variable {s : State} {f : OwnFrame} {rival : Option Byte}

/-- The fault code byte, one fault after the other (Table 11-5). -/
theorem faultByte_eq (fault : Option FaultCode) : faultByte fault = match fault with
    | none => 0 | some .overtemp => 1 | some .sensor => 2 | some .lidSense => 3 | some .stepTimeout => 4
    | some .config => 5 | some .barred => 6 := by
  cases fault with
  | none => rfl
  | some code => cases code <;> rfl

/-- The slots in the order of their kinds. -/
theorem nextOffer_eq (s : State) : nextOffer s =
    (s.tx.evict.map OwnFrame.evict <|> s.tx.claim.map OwnFrame.claim <|> s.tx.mark.map OwnFrame.mark <|>
      s.tx.reply.map OwnFrame.reply <|> if s.tx.presence = true then some (.presence (presencePayload s)) else none) := by
  simp only [nextOffer]
  cases s.tx.evict with
  | some mask => rfl
  | none =>
    cases s.tx.claim with
    | some c => rfl
    | none =>
      cases s.tx.mark with
      | some m => rfl
      | none =>
        cases s.tx.reply with
        | some r => rfl
        | none => cases s.tx.presence <;> rfl

theorem offerOpen_iff (s : State) : offerOpen s = true ↔
    s.line.participation = .live ∧ s.line.onLine = none ∧ s.line.finishing = none := by
  simp [offerOpen, lineFree]

theorem offerLost_iff (rival : Option Byte) (own : Station) (f : OwnFrame) :
    offerLost rival own f = true ↔ ∃ r, rival = some r ∧ r.toNat < 16 * f.kind.val + own.val := by
  cases rival with
  | none => simp [offerLost]
  | some r =>
    rw [offerLost, decide_eq_true_iff]
    simp [arbitration]

/-! ## What the idle line begins (R166, R168) -/

/-- An abandoned frame is in no slot and keeps no offer from beginning. -/
theorem offerOp_of_next (next : nextOffer s = some f) : offerOp rival s =
    if (offerOpen s && !offerLost rival s.own f) = true then
      { s with line := { s.line with onLine := some ⟨f, false, false⟩, abandoned := false } }
    else { s with line := { s.line with abandoned := false } } := by
  have same : nextOffer (forgetAbandoned s) = some f := next
  simp only [offerOp, offerNext, same]
  rfl

theorem offerOp_none (closed : offerOpen s = false ∨ nextOffer s = none) :
    offerOp rival s = { s with line := { s.line with abandoned := false } } := by
  cases next : nextOffer s with
  | none =>
    have same : nextOffer (forgetAbandoned s) = none := next
    simp only [offerOp, offerNext, same]
    rfl
  | some f => rw [offerOp_of_next next, closed.resolve_right (by simp [next])]; rfl

theorem offerOp_lost (next : nextOffer s = some f) (lost : offerLost rival s.own f = true) :
    offerOp rival s = { s with line := { s.line with abandoned := false } } := by
  rw [offerOp_of_next next, lost, Bool.not_true, Bool.and_false]
  rfl

theorem offerOp_begins (next : nextOffer s = some f) (opened : offerOpen s = true)
    (goes : offerLost rival s.own f = false) : offerOp rival s =
      { s with line := { s.line with onLine := some ⟨f, false, false⟩, abandoned := false } } := by
  rw [offerOp_of_next next, opened, goes]
  rfl

theorem hearOffer_none (closed : offerOpen s = false ∨ nextOffer s = none) (pulses : List Pulse) :
    hearOffer s pulses = [] := by
  cases next : nextOffer s with
  | none => simp only [hearOffer, next]
  | some f =>
    have shut : offerOpen s = false := closed.resolve_right (by simp [next])
    simp [hearOffer, next, shut]

theorem hearOffer_open (next : nextOffer s = some f) (opened : offerOpen s = true) (pulses : List Pulse) :
    hearOffer s pulses = hearSent (f.wire s.own) (cellsOf pulses) := by
  simp only [hearOffer, next, opened, if_true]

/-- Settles O53: the PRESENCE byte by byte, the cells of a frame, what they read back as, and the offer of the lowest kind. -/
theorem offersTakeTheLowestKind : Obligations.OffersTakeTheLowestKind := by
  unfold Obligations.OffersTakeTheLowestKind
  intro b signed bit
  refine ⟨fun s => ?presence, fun f => ⟨f.cells_length, rfl, ?verdict⟩, fun f cells => ?read, fun rival s high => ?offer⟩
  case presence => simp only [presencePayload, faultByte_eq]; rfl
  case verdict => rw [← f.body_length]; exact List.drop_left
  case read =>
    intro read last sound
    have body (n : Nat) (inside : n ≤ f.body.length) (as : sound n) : ∀ i < n, readCell cells i = f.body[i]? :=
      fun i below => (as i below).trans (f.cells_of_body (below.trans_le inside))
    have length : f.body.length = last + 1 := f.body_length.trans (by omega)
    refine ⟨fun whole => hearSent_of_sound length (body _ le_rfl (length ▸ whole)), fun i upTo whole unlike => ?_⟩
    have inside : i < f.body.length := by omega
    exact hearSent_of_unlike inside (body i inside.le whole) fun same =>
      unlike (same.trans (f.cells_of_body inside).symm)
  case offer =>
    intro lowest free idle
    have next : nextOffer s = lowest := nextOffer_eq s
    have opens : offerOpen s = true ↔ free := offerOpen_iff s
    have answers {t : State} (op : offerOp rival s = t) : exec (.offer rival) s = .next t :=
      (ran_of_high _ _ high).trans (congrArg _ op)
    refine ⟨fun shut => ?shut, fun isFree f isLowest => ?lowest⟩
    case shut =>
      have closed : offerOpen s = false ∨ nextOffer s = none := by
        rwa [← Bool.not_eq_true, opens, next]
      exact ⟨answers (offerOp_none closed), hearOffer_none closed⟩
    case lowest =>
      have offered := next.trans isLowest
      have isOpen := opens.2 isFree
      have lost := offerLost_iff rival s.own f
      refine ⟨hearOffer_open offered isOpen, fun lower => answers (offerOp_lost offered (lost.2 lower)), fun least => ?_⟩
      have goes : offerLost rival s.own f = false := by
        rw [← Bool.not_eq_true, lost]
        rintro ⟨r, isRival, lower⟩
        exact absurd lower (Nat.not_lt.2 (least r isRival))
      refine ⟨_, answers (offerOp_begins offered isOpen goes), ?_, rfl⟩
      simp only [hlTxCells, high, if_true]
      rfl

end Sys2Proof.Machine
end

-- ==== A gate end, and the glitch filters ====
section
/-! SUPPORT. What a gate end makes of the counters, the switches and the range conditions, and whom it tells (R143 to R151), and
what a change of a filtered level counts (R142); O6 to O9. -/

namespace Sys2Proof.Machine

variable {s : State}

/-! ## Debounced switches and range conditions (R147, R150) -/

namespace Debounce

variable {d : Debounce} {raw : Bool}

theorem update_of_same (same : d.level = raw) : d.update raw = ⟨d.level, 0⟩ := if_pos same

theorem update_of_differs (differs : d.level ≠ raw) (few : d.count < 2) : d.update raw = ⟨d.level, d.count + 1⟩ :=
  (if_neg differs).trans (if_neg (Nat.not_le.2 few))

theorem update_of_third (differs : d.level ≠ raw) (third : 2 ≤ d.count) : d.update raw = ⟨raw, 0⟩ :=
  (if_neg differs).trans (if_pos third)

end Debounce

namespace RangeWatch

variable {w : RangeWatch} {inRange : Bool}

theorem update_of_agrees (agrees : w.present ≠ inRange) : w.update inRange = ⟨w.present, 0⟩ := if_neg agrees

theorem update_of_against (against : w.present = inRange) (few : w.count < 2) :
    w.update inRange = ⟨w.present, w.count + 1⟩ := (if_pos against).trans (if_neg (Nat.not_le.2 few))

theorem update_of_third (against : w.present = inRange) (third : 2 ≤ w.count) : w.update inRange = ⟨!w.present, 0⟩ :=
  (if_pos against).trans (if_pos third)

end RangeWatch

/-! ## The gate end as one record (R143, R145, R148, R151) -/

/-- The reports that a gate end makes, in the order made (R148, R151). -/
def reportsMade (before after : Channels) : List Report :=
  (if before.bowl.level && !after.bowl.level then [.bowl] else []) ++
    (if !before.wgtRange.present && after.wgtRange.present then [.scale] else []) ++
    (if !before.foodRange.present && after.foodRange.present then [.probe] else []) ++
    (if !before.baseRange.present && after.baseRange.present then [.sensor] else [])

theorem reportIf_eq (c : Bool) (r : Report) (s : State) : reportIf c r s =
    { s with inbox := { s.inbox with reports := s.inbox.reports ++ if c then [r] else [] } } := by
  cases c <;> simp [report]

theorem gateReports_eq (before after : Channels) (s : State) : gateReports before after s =
    { s with inbox := { s.inbox with reports := s.inbox.reports ++ reportsMade before after } } := by
  simp only [gateReports, reportIf_eq, reportsMade, List.append_assoc]

/-- What a gate end leaves: the channels, LID_CLOSED as read, the set delivered to the four blocks, and the reports. -/
theorem gateEndOp_eq (lid : Bool) (s : State) :
    let pins := { s.pins with lidClosed := lid }
    let after := s.chan.gateEnd pins
    gateEndOp lid s = { s with
      pins := pins, chan := after
      inbox := { s.inbox with
        heater := s.inbox.heater ++ [after.latest], stirrer := s.inbox.stirrer ++ [after.latest]
        scale := s.inbox.scale ++ [after.latest], engine := s.inbox.engine ++ [after.delivery]
        reports := s.inbox.reports ++ reportsMade s.chan after } } := by
  simp only [gateEndOp, gateReports_eq]
  rfl

theorem execGateEnd_eq (high : s.resetN = true) (lid : Bool) : exec (.gateEnd lid) s = .next (gateEndOp lid s) :=
  ran_of_high _ _ high

/-- Settles O6: every field of the set and of the four mailboxes is read off `gateEndOp_eq`. -/
theorem gateEndFormsAndDeliversTheSet : Obligations.GateEndFormsAndDeliversTheSet := by
  intro lid s high
  refine ⟨_, execGateEnd_eq high lid, ?_⟩
  rw [gateEndOp_eq]
  refine ⟨rfl, ?boundary, rfl, rfl, rfl, rfl, rfl, rfl, rfl, rfl, rfl, rfl, rfl, rfl⟩
  case boundary => simp [Channels.gateEnd]

/-- Whether a report is made decides how often it is. -/
theorem count_made (r made : Report) (condition : Prop) [Decidable condition] :
    (if condition then [made] else []).count r = if made = r ∧ condition then 1 else 0 := by
  by_cases holds : condition <;> simp [holds, List.count_singleton]

/-- Settles O7: each switch and each range condition by its update, and each report counted among those made. -/
theorem switchesAndRangesChangeOverThreeSets : Obligations.SwitchesAndRangesChangeOverThreeSets := by
  intro lid s high
  refine ⟨_, execGateEnd_eq high lid, ?_⟩
  rw [gateEndOp_eq]
  refine ⟨?switches, ?ranges, fun r => ?reports⟩
  case switches =>
    have turns (d : Debounce) (raw : Bool) : (d.level = raw → d.update raw = ⟨d.level, 0⟩) ∧
        (d.level ≠ raw → d.count < 2 → d.update raw = ⟨d.level, d.count + 1⟩) ∧
        (d.level ≠ raw → 2 ≤ d.count → d.update raw = ⟨raw, 0⟩) :=
      ⟨Debounce.update_of_same, Debounce.update_of_differs, Debounce.update_of_third⟩
    simp only [List.forall_mem_cons]
    exact ⟨turns _ _, turns _ _, turns _ _, by simp⟩
  case ranges =>
    have turns (w : RangeWatch) (lo hi count : Nat) :
        let inRange := decide (lo ≤ count ∧ count ≤ hi)
        let after := w.update (within lo hi count)
        (w.present ≠ inRange → after = ⟨w.present, 0⟩) ∧
          (w.present = inRange → w.count < 2 → after = ⟨w.present, w.count + 1⟩) ∧
          (w.present = inRange → 2 ≤ w.count → after = ⟨!w.present, 0⟩) := by
      rw [within_eq]
      exact ⟨RangeWatch.update_of_agrees, RangeWatch.update_of_against, RangeWatch.update_of_third⟩
    simp only [List.forall_mem_cons]
    exact ⟨turns _ _ _ _, turns _ _ _ _, turns _ _ _ _, by simp⟩
  case reports =>
    generalize s.chan.gateEnd _ = after
    rw [List.count_append, reportsMade]
    simp only [List.count_append, count_made, Bool.and_eq_true, Bool.not_eq_true']
    cases r <;> simp

/-! ## The rows that name a case of the gate end (R144, R147, R150, log entry 3) -/

/-- A row of a case is the gate end where its case holds. -/
theorem ran_whenDue (high : s.resetN = true) {due : State → Prop} [DecidablePred due] (holds : due s) (lid : Bool) :
    ran (fun s => if due s then gateEndOp lid s else s) s = .next (gateEndOp lid s) :=
  (ran_of_high _ _ high).trans (congrArg _ (if_pos holds))

theorem debounceDue_iff (c : Channels) (pins : PinLevels) : debounceDue c pins = true ↔
    (c.bowl.update pins.bowlSeated).level ≠ c.bowl.level ∨ (c.lid.update pins.lidClosed).level ≠ c.lid.level ∨
      (c.lock.update pins.lidLocked).level ≠ c.lock.level := by
  simp [debounceDue, or_assoc]

theorem rangeDue_iff (c : Channels) : rangeDue c = true ↔
    (c.wgtRange.update (wgtInRange c.wgt.edges)).present ≠ c.wgtRange.present ∨
      (c.baseRange.update (tempInRange c.base.edges)).present ≠ c.baseRange.present ∨
      (c.foodRange.update (tempInRange c.food.edges)).present ≠ c.foodRange.present := by
  simp [rangeDue, or_assoc]

/-- Settles O8: where the case that a row names holds, the row is due, and the gate end turns what the case says it turns. -/
theorem gateEndRowsNameItsCases : Obligations.GateEndRowsNameItsCases := by
  intro lid s high
  let pins := { s.pins with lidClosed := lid }
  have gate := execGateEnd_eq high lid
  have chan : (gateEndOp lid s).chan = s.chan.gateEnd pins := by rw [gateEndOp_eq]
  have fifth (last : s.chan.boundary = 4) : exec (.secondBoundary lid) s = .next (gateEndOp lid s) :=
    ran_whenDue (due := fun s => boundaryDue s.chan) high (by simp [boundaryDue, last]) lid
  have debounced (due : debounceDue s.chan pins = true) : exec (.debouncedStateChange lid) s = .next (gateEndOp lid s) :=
    ran_whenDue (due := fun s => debounceDue s.chan { s.pins with lidClosed := lid }) high due lid
  have ranged (due : rangeDue s.chan = true) : exec (.rangeConditionChange lid) s = .next (gateEndOp lid s) :=
    ran_whenDue (due := fun s => rangeDue s.chan) high due lid
  have turned {d : Debounce} {raw : Bool} (count : d.count = 2) (differs : d.level ≠ raw) :
      d.update raw = ⟨raw, 0⟩ ∧ (d.update raw).level ≠ d.level := by
    rw [Debounce.update_of_third differs count.ge]
    exact ⟨rfl, differs.symm⟩
  have crossed {w : RangeWatch} {inRange : Bool} (count : w.count = 2) (against : w.present = inRange) :
      w.update inRange = ⟨!w.present, 0⟩ ∧ (w.update inRange).present ≠ w.present := by
    rw [RangeWatch.update_of_third against count.ge]
    exact ⟨rfl, Bool.not_ne_self _⟩
  have switches := debounceDue_iff s.chan pins
  have ranges := rangeDue_iff s.chan
  refine ⟨fun last => ⟨_, fifth last, gate, ?cleared, ?boundary⟩,
    fun count differs => ⟨_, debounced (switches.2 (.inl (turned count differs).2)), gate, ?bowl⟩,
    fun count differs => ⟨_, debounced (switches.2 (.inr (.inl (turned count differs).2))), gate, ?closed⟩,
    fun count differs => ⟨_, debounced (switches.2 (.inr (.inr (turned count differs).2))), gate, ?lock⟩,
    fun count against => ⟨_, ranged (ranges.2 (.inl (crossed count against).2)), gate, ?wgt⟩,
    fun count against => ⟨_, ranged (ranges.2 (.inr (.inl (crossed count against).2))), gate, ?base⟩,
    fun count against => ⟨_, ranged (ranges.2 (.inr (.inr (crossed count against).2))), gate, ?food⟩⟩
  all_goals rw [chan]
  case cleared => simp [Channels.gateEnd, last]
  case boundary => simp [Channels.gateEnd, last]
  case bowl => exact (turned count differs).1
  case closed => exact (turned count differs).1
  case lock => exact (turned count differs).1
  case wgt => exact (crossed count against).1
  case base => exact (crossed count against).1
  case food => exact (crossed count against).1

/-! ## The glitch filters (R142, Table 8-2) -/

theorem glitchFilter_long {channel : Channel} {now level : Bool} {stands : Nat} (unlike : level ≠ now)
    (long : filterWidth channel ≤ stands) (later : List Nat) : glitchFilter channel now level (stands :: later) =
      .filteredLevelChange channel level :: glitchFilter channel level (!level) later := if_pos ⟨unlike, long⟩

theorem glitchFilter_ignores {channel : Channel} {now level : Bool} {stands : Nat}
    (ignored : level = now ∨ stands < filterWidth channel) (later : List Nat) :
    glitchFilter channel now level (stands :: later) = glitchFilter channel now (!level) later :=
  if_neg fun counts => ignored.elim counts.1 (Nat.not_lt.2 counts.2)

/-! ## A change of a filtered level (R142) -/

theorem PulseInput.change_eq (p : PulseInput) (level : Bool) :
    p.change level = ⟨level, if level = true ∧ p.level = false then min 65535 (p.edges + 1) else p.edges⟩ := by
  simp only [PulseInput.change, Bool.and_eq_true, Bool.not_eq_true']

theorem filterChange_input (channel : Channel) (level : Bool) (s : State) :
    (filterChange channel level s).chan.input channel = (s.chan.input channel).change level := by
  cases channel <;> rfl

theorem filterChange_input_ne {channel other : Channel} (differs : other ≠ channel) (level : Bool) (s : State) :
    (filterChange channel level s).chan.input other = s.chan.input other := by
  cases channel <;> cases other <;> simp_all [filterChange, Channels.input]

/-- A change of a filtered level leaves of the block all but the pin and the four inputs' records. -/
theorem filterChange_eq (channel : Channel) (level : Bool) (s : State) :
    let t := filterChange channel level s
    t.chan = { s.chan with wgt := t.chan.wgt, base := t.chan.base, food := t.chan.food, tach := t.chan.tach } ∧
      t = { s with pins := t.pins, chan := t.chan } := by
  cases channel <;> exact ⟨rfl, rfl⟩

/-- The inputs by name, each with its record. -/
def inputRecords : List (Channel × (Channels → PulseInput)) :=
  [(.wgt, fun c => c.wgt), (.base, fun c => c.base), (.food, fun c => c.food), (.tach, fun c => c.tach)]

theorem inputRecords_input : ∀ p ∈ inputRecords, ∀ c : Channels, p.2 c = c.input p.1 := by
  simp [inputRecords, Channels.input]

/-- Table 8-2. -/
theorem filterWidth_table :
    ∀ p ∈ [(Channel.wgt, 1000), (.base, 20000), (.food, 20000), (.tach, 100000)], filterWidth p.1 = p.2 := by
  simp [filterWidth]

/-- Settles O9: the filter by its width, and the input's record as a change of its level leaves it. -/
theorem risingEdgesAreCounted : Obligations.RisingEdgesAreCounted := by
  refine ⟨fun p row now level stands later => ?filter, fun level s high p row => ?counts⟩
  case filter =>
    rw [← filterWidth_table p row]
    exact ⟨fun unlike long => glitchFilter_long unlike long later, fun ignored => glitchFilter_ignores ignored later,
      fun short => glitchFilter_short p.1 now level later short⟩
  case counts =>
    have input : ∀ q ∈ inputRecords, ∀ c : Channels, q.2 c = c.input q.1 := inputRecords_input
    obtain ⟨inputs, rest⟩ := filterChange_eq p.1 level s
    refine ⟨fun lengths => by rw [input p row]; rfl, _, ran_of_high _ _ high, ?_, inputs, fun q other differs => ?_, rest⟩
    · rw [input p row, input p row, filterChange_input, PulseInput.change_eq]
    · rw [input q other, input q other, filterChange_input_ne differs]

end Sys2Proof.Machine
end

-- ==== A RESTART is answered and carried out ====
section
/-! SUPPORT. A RESTART carried out, written out as one record, and the operations that carry it out: the end of its REPLY, and each way
out of LIVE (R166, R175, R177, R178, R186); O5. -/

namespace Sys2Proof.Machine

variable {s : State}

/-! ## The blocks after a RESTART and the faults that stand then (R94, R186, log entry 19) -/

/-- The faults that a RESTART finds standing, in the order of Table 4-4, with the pins read at that moment (R128, R178). -/
def faultsAtRestart (pins : PinLevels) (barred : Bool) : List FaultCode :=
  (if pins.lidClosed = false ∧ pins.lidLocked = true then [.lidSense] else []) ++ if barred = true then [.barred] else []

/-- The engine at UNREADY with the first fault that stands latched (R19, R95). -/
def Engine.restarted : List FaultCode → Engine
  | [] => .reset
  | code :: _ => { Engine.reset with state := .fault, fault := some code }

/-- The empty journal with the faults that stand written, the first as FAULT and each further one as FAULT_AGAIN (R95, R96). -/
def Journal.restarted (faults : List FaultCode) : Journal where
  entries := match faults with
    | [] => []
    | code :: again => .station 0 0 (.fault code) :: again.map fun c => .station 0 0 (.faultAgain c)
  written := faults.length

/-- The block after a RESTART is carried out: every block reset, the straps kept, LISTEN or BARRED; an own frame sent to its end, a
peer's frame abandoned, and what was driven in the verdict cells left by the operation around it (R166, R186). -/
def carriedOut (barred : Bool) (finishing : Option OwnFrame) (verdict : VerdictDriven) (abandoned : Bool) (s : State) : State :=
  let pins := pinsAtRestart s.pins s.nextFree.1
  { State.afterReset s.straps pins true with
    resetN := s.resetN
    engine := .restarted (faultsAtRestart pins barred)
    journal := .restarted (faultsAtRestart pins barred)
    line := { (if barred = true then Line.resetBarred else Line.reset) with
      finishing := finishing, verdict := verdict, abandoned := abandoned }
    freeCount := s.freeCount + 1
    pending := s.pending }

/-- A RESTART reads the straps, the pins, the free value and the queue, and nothing else of the blocks. -/
theorem carriedOut_congr {u : State} {barred : Bool} {finishing : Option OwnFrame} {verdict : VerdictDriven} {abandoned : Bool}
    (same : u.resetN = s.resetN ∧ u.straps = s.straps ∧ u.pins = s.pins ∧ u.freeCount = s.freeCount ∧ u.pending = s.pending) :
    carriedOut barred finishing verdict abandoned u = carriedOut barred finishing verdict abandoned s := by
  simp only [carriedOut, nextFree_value, same]

/-- The own frame that is sent to its end (R166). -/
def Line.sending (l : Line) : Option OwnFrame := (l.onLine.map LineFrame.frame).or l.finishing

theorem restarted_eq (l : Line) : l.restarted =
    { (if l.participation = .barred then Line.resetBarred else Line.reset) with
      finishing := l.sending, verdict := l.verdict } := by
  simp only [Line.restarted, Line.sending]
  cases l.onLine <;> rfl

/-- Of the faults of Table 4-4 only LID_SENSE and BARRED can stand when the blocks have just been reset. -/
theorem standing_restartBlocks (s : State) : allFaults.filter (standing (restartBlocks s)) =
    faultsAtRestart (pinsAtRestart s.pins s.nextFree.1) (decide (s.line.participation = .barred)) := by
  have overtemp : standing (restartBlocks s) .overtemp = false := rfl
  have sensor : standing (restartBlocks s) .sensor = false := rfl
  have stepTimeout : standing (restartBlocks s) .stepTimeout = false := rfl
  have config : standing (restartBlocks s) .config = false := by
    simp [standing, restartBlocks, State.afterReset, Share.reset]
  have lidSense : standing (restartBlocks s) .lidSense =
      (!(pinsAtRestart s.pins s.nextFree.1).lidClosed && (pinsAtRestart s.pins s.nextFree.1).lidLocked) := rfl
  have barred : standing (restartBlocks s) .barred = decide (s.line.participation = .barred) := by
    have kept : s.line.restarted.participation = .barred ↔ s.line.participation = .barred := by
      rw [restarted_eq]
      split <;> simp_all [Line.reset, Line.resetBarred]
    exact decide_eq_decide.2 kept
  calc allFaults.filter (standing (restartBlocks s))
      = ([.lidSense] ++ [.barred] : List FaultCode).filter (standing (restartBlocks s)) := by
        simp [allFaults, List.filter_cons, overtemp, sensor, stepTimeout, config]
    _ = [.lidSense].filter (standing (restartBlocks s)) ++ [.barred].filter (standing (restartBlocks s)) :=
        List.filter_append ..
    _ = _ := by
        simp only [List.filter_cons, List.filter_nil, lidSense, barred, faultsAtRestart, Bool.and_eq_true, Bool.not_eq_true']

/-- A fault latched in blocks just reset is all that they show of it: no run ends and no unit is moved. -/
theorem latchFault_restartBlocks (code : FaultCode) (s : State) : latchFault code (restartBlocks s) =
    { restartBlocks s with engine := .restarted [code], journal := .restarted [code] } := by
  have idle : faultRun (restartBlocks s) = restartBlocks s := faultRun_of_idle rfl
  have off : heaterOff (restartBlocks s) = restartBlocks s := heaterOff_of_off rfl
  simp only [latchFault, idle, off, giveStop_stop]
  rfl

theorem testFaults_restartBlocks (s : State) :
    let faults := faultsAtRestart (pinsAtRestart s.pins s.nextFree.1) (decide (s.line.participation = .barred))
    testFaults allFaults (restartBlocks s) =
      { restartBlocks s with engine := .restarted faults, journal := .restarted faults } := by
  intro faults
  have stand : allFaults.filter (standing (restartBlocks s)) = faults := standing_restartBlocks s
  cases found : faults with
  | nil => rw [testFaults_none (stand.trans found)]; rfl
  | cons code again =>
    have few : again = [] ∨ again = [.barred] := by
      simp only [faults, faultsAtRestart] at found
      split at found <;> split at found <;> simp_all
    have healthy : (restartBlocks s).engine.state ≠ .fault := by simp [restartBlocks, State.afterReset, Engine.reset]
    rw [testFaults_latches healthy (stand.trans found), latchFault_restartBlocks]
    rcases few with rfl | rfl <;> rfl

theorem restart_eq (s : State) : restart s =
    carriedOut (decide (s.line.participation = .barred)) s.line.sending s.line.verdict false s := by
  rw [restart, testFaults_restartBlocks]
  simp only [restartBlocks, carriedOut, restarted_eq, decide_eq_true_eq]
  split <;> rfl

/-! ## Operations that carry a RESTART out (R166, R171, R175, R186) -/

theorem restartAfter_pending {replied : Bool} (answered : replied = true) (pending : s.handler.restartPending = true) :
    restartAfter replied s = restart s := if_pos (by simp [answered, pending])

/-- A RESTART carried out while a frame is under reception abandons that frame (R166). -/
theorem whileReceiving_carriedOut {op : State → State} {barred : Bool} {finishing : Option OwnFrame} {verdict : VerdictDriven}
    (pending : s.handler.restartPending = true) (carries : op s = carriedOut barred finishing verdict false s)
    (receiving : Bool) : whileReceiving receiving op s = carriedOut barred finishing verdict receiving s := by
  cases receiving <;> simp only [whileReceiving, carries, pending] <;> rfl

section Reply

variable {r : Reply} (pending : s.handler.restartPending = true) (onLine : s.line.onLine = some ⟨.reply r, false, false⟩)

include pending onLine

/-- The REPLY is dropped, and the RESTART it answers is carried out (R186). -/
theorem replyDropped_carriesOut (live : s.line.participation = .live) :
    endOffer false s = carriedOut false s.line.finishing s.line.verdict false s := by
  rw [endOffer_dropped onLine]
  refine (restartAfter_pending (s := offLine _ s) rfl pending).trans ?_
  rw [restart_eq]
  simp only [offLine, live]
  rfl

/-- The REPLY is taken, and the RESTART it answers is carried out (R186). -/
theorem replyTaken_carriesOut (live : s.line.participation = .live) :
    endOffer true s = carriedOut false s.line.finishing s.line.verdict false s := by
  rw [endOffer_taken onLine]
  refine (restartAfter_pending (s := offLineTaken _ s) rfl pending).trans ?_
  rw [restart_eq]
  simp only [offLineTaken, live]
  rfl

end Reply

/-! ## Leaving LIVE with the REPLY waiting (R175, R177, R178, log entry 17) -/

/-- A station that leaves LIVE still sends the frame on the line, and keeps what it drove in the verdict cells (R175). -/
theorem leaveLive_line (reason : LeftReason) (s : State) :
    (leaveLive reason s).line.sending = s.line.sending ∧ (leaveLive reason s).line.verdict = s.line.verdict := by
  let left := framesLeft (setReplySlot none (noteEvent (.leftLive reason) s))
  have sent : StillSent s left.line.onLine :=
    (Option.map_map ..).trans (touchSent_stillSent 7 (noteEvent (.leftLive reason) s))
  obtain ⟨unlisted, still, withdrawn⟩ := setPendingEvict_eq 0 (setOwnGrant 0 left)
  have line : (leaveLive reason s).line = (touchSent 1 (setPendingEvict 0 (setOwnGrant 0 left))).line := by
    simp [leaveLive_eq, shareLeaveLive, left]
  have frames : (leaveLive reason s).line.onLine.map LineFrame.frame = s.line.onLine.map LineFrame.frame := by
    rw [line]
    refine Eq.trans (touchSent_stillSent 1 _) ?_
    rw [withdrawn]
    exact Eq.trans still sent
  have others : (leaveLive reason s).line.finishing = s.line.finishing ∧ (leaveLive reason s).line.verdict = s.line.verdict := by
    rw [line, withdrawn]
    exact ⟨rfl, rfl⟩
  exact ⟨by rw [Line.sending, frames, others.1, Line.sending], others.2⟩

section Leaves

variable (pending : s.handler.restartPending = true) (waits : s.tx.reply.isSome = true)

include pending waits

theorem leaveToListen_carriesOut (reason : LeftReason) :
    leaveToListen reason s = carriedOut false s.line.sending s.line.verdict false s := by
  obtain ⟨sending, verdict⟩ := leaveLive_line reason s
  have carries : leaveToListen reason s = restart (enterListen (leaveLive reason s)) :=
    restartAfter_pending waits (by simpa using pending)
  have line : (enterListen (leaveLive reason s)).line.sending = s.line.sending ∧
      (enterListen (leaveLive reason s)).line.verdict = s.line.verdict := ⟨sending, verdict⟩
  have listens : (enterListen (leaveLive reason s)).line.participation = .listen := rfl
  rw [carries, restart_eq, line.1, line.2, listens]
  exact carriedOut_congr (by simp)

theorem enterLineFault_carriesOut : enterLineFault s = carriedOut false s.line.sending s.line.verdict false s := by
  obtain ⟨sending, verdict⟩ := leaveLive_line .lineFault s
  let faulty := { leaveLive .lineFault s with
    line := { (leaveLive .lineFault s).line with participation := .lineFault, spoil := 8, quiet := .running } }
  have carries : enterLineFault s = restart faulty := restartAfter_pending waits (by simpa [faulty] using pending)
  have line : faulty.line.sending = s.line.sending ∧ faulty.line.verdict = s.line.verdict := ⟨sending, verdict⟩
  have fault : faulty.line.participation = .lineFault := rfl
  rw [carries, restart_eq, line.1, line.2, fault]
  exact carriedOut_congr (by simp [faulty])

/-- A station that finds its own number on the line stays barred after the RESTART (R166, R178). -/
theorem enterBarred_carriesOut (live : s.line.participation = .live) :
    enterBarred s = carriedOut true s.line.sending s.line.verdict false s := by
  obtain ⟨sending, verdict⟩ := leaveLive_line .barred s
  let shut := { leaveLive .barred s with
    line := { (leaveLive .barred s).line with
      participation := .barred, window := .stopped, ownSilence := .stopped, quiet := .stopped } }
  let barred := report .barred (setMarkSlot none shut)
  have carries : enterBarred s = restart barred := by
    have left : (if s.line.participation = .live then leaveLive .barred s else s) = leaveLive .barred s := if_pos live
    simp only [enterBarred, left]
    exact restartAfter_pending waits (by simpa [barred, shut] using pending)
  have frames : barred.line.onLine.map LineFrame.frame = shut.line.onLine.map LineFrame.frame := touchSent_stillSent 3 shut
  have line : barred.line.sending = s.line.sending ∧ barred.line.verdict = s.line.verdict :=
    ⟨(congrArg (·.or shut.line.finishing) frames).trans sending, verdict⟩
  have isBarred : barred.line.participation = .barred := rfl
  rw [carries, restart_eq, line.1, line.2, isBarred]
  exact carriedOut_congr (by simp [barred, shut])

/-- The own silence timer abandons the peer's frame under reception with the blocks (R166, R175). -/
theorem ownSilenceOp_carriesOut (live : s.line.participation = .live) (running : s.line.ownSilence = .running)
    (receiving : Bool) : ownSilenceOp receiving s =
      carriedOut false s.line.sending s.line.verdict (receiving && lineFree s) s := by
  rw [ownSilenceOp, if_pos ⟨live, running⟩]
  exact whileReceiving_carriedOut pending (leaveToListen_carriesOut pending waits .ownSilence) _

/-- A bad frame that takes the station out of LIVE: the eighth, or one whose verdict cells could not be placed (R173, R177). -/
theorem foundBad_carriesOut (live : s.line.participation = .live) {verdict : BadVerdict}
    (leaves : 7 ≤ s.line.spoil ∨ verdict = .unplaced) :
    foundBad verdict s = carriedOut false s.line.sending (badDriven .live verdict) false s := by
  let judged := { s with line := { s.line with verdict := badDriven .live verdict } }
  have bad : foundBad verdict s = badLive verdict judged := by simp only [foundBad, live, judged]
  rw [bad, badLive]
  by_cases eighth : 7 ≤ s.line.spoil
  · exact (if_pos eighth).trans (enterLineFault_carriesOut (s := judged) pending waits)
  · have unplaced := leaves.resolve_left eighth
    exact (if_neg eighth).trans <| (if_pos unplaced).trans (leaveToListen_carriesOut (s := judged) pending waits .unchecked)

/-- A frame with the own number bars the station, whatever its kind (R172, R178). -/
theorem ownNumber_carriesOut (live : s.line.participation = .live) (handle : State → State) :
    handleFrame s.own handle s = carriedOut true s.line.sending .taken false s := by
  have duplicate : s.own = (checkedGood s).own ∧ (checkedGood s).line.participation ≠ .barred :=
    ⟨rfl, by simp [checkedGood, live]⟩
  have driven : (checkedGood s).line.verdict = .taken := by simp [checkedGood, goodDriven, live]
  have barred : enterBarred (checkedGood s) =
      carriedOut true s.line.sending (checkedGood s).line.verdict false (checkedGood s) :=
    enterBarred_carriesOut (s := checkedGood s) pending waits live
  rw [handleFrame, if_pos duplicate, barred, driven]
  rfl

end Leaves

/-- Settles O5: the panel's RESTART is answered first; each way its REPLY ends is a RESTART carried out. -/
theorem restartIsAnsweredThenCarriedOut : Obligations.RestartIsAnsweredThenCarriedOut := by
  unfold Obligations.RestartIsAnsweredThenCarriedOut
  intro restarted
  have carried (barred : Bool) (finishing : Option OwnFrame) (verdict : VerdictDriven) (abandoned : Bool) {s : State}
      (high : s.resetN = true) : restarted barred s (carriedOut barred finishing verdict abandoned s) := by
    refine ⟨rfl, rfl, high, rfl, rfl, rfl, rfl, rfl, rfl, ?engine, rfl, slots_reset, rfl, ?_, ?_, ?_, ?_, ?_, ?_, ?_, rfl, rfl,
      rfl, rfl⟩
    case engine => simp only [carriedOut, Engine.restarted]; rfl
    all_goals cases barred <;> rfl
  have answers {op : State → State} {s t : State} (high : s.resetN = true) (ends : op s = t) : ran op s = .next t :=
    (ran_of_high _ _ high).trans (congrArg _ ends)
  refine ⟨fun src dst s panel => ?answered, fun s high live pending => ⟨fun r onLine => ?reply, fun waits =>
    ⟨fun running receiving => ⟨_, answers high (ownSilenceOp_carriesOut pending waits live running receiving),
      carried _ _ _ _ high, rfl, fun f onLine => ?sent, fun free finished => ?free⟩, fun kept => ?frames⟩⟩⟩
  case answered =>
    have handler : (noted src s).handler = s.handler := by simp
    refine ran_takeCommand panel _ ?_
    rw [handler]
  case reply =>
    have dropped := replyDropped_carriesOut pending onLine live
    have taken := replyTaken_carriesOut pending onLine live
    have fault : echoFaultOp s = carriedOut false s.line.finishing s.line.verdict true s :=
      whileReceiving_carriedOut pending dropped true
    simp only [List.forall_mem_cons]
    exact ⟨⟨_, answers high taken, carried _ _ _ _ high, rfl, rfl, rfl⟩,
      ⟨_, answers high dropped, carried _ _ _ _ high, rfl, rfl, rfl⟩,
      ⟨_, answers high fault, carried _ _ _ _ high, rfl, rfl, rfl⟩, by simp⟩
  case sent => simp [carriedOut, Line.sending, lineFree, onLine]
  case free => simp [carriedOut, Line.sending, lineFree, free, finished]
  case frames =>
    have bad {verdict : BadVerdict} (leaves : 7 ≤ s.line.spoil ∨ verdict = .unplaced) : foundBadOp verdict s =
        carriedOut false s.line.sending (badDriven .live verdict) false s :=
      (atFrameEnd_of_kept _ _ kept).trans (foundBad_carriesOut pending waits live leaves)
    refine ⟨⟨_, answers high (bad (.inr rfl)), carried _ _ _ _ high, rfl, rfl⟩, fun spoiled verdict c ends => ?eighth,
      fun dst tag marks => ⟨_, answers high ((atFrameEnd_of_kept _ _ kept).trans
        (ownNumber_carriesOut pending waits live _)), carried _ _ _ _ high, rfl, rfl⟩⟩
    have answered : exec c s = .next (carriedOut false s.line.sending (badDriven .live verdict) false s) := by
      have eighth : eighthBadOp verdict s = foundBadOp verdict s := if_pos ⟨live, spoiled⟩
      simp only [List.mem_cons, List.not_mem_nil, or_false] at ends
      rcases ends with rfl | rfl
      · exact answers high (eighth.trans (bad (.inl spoiled)))
      · exact answers high (bad (.inl spoiled))
    exact ⟨_, answered, carried _ _ _ _ high, rfl, by cases verdict <;> rfl⟩

end Sys2Proof.Machine
end

-- ==== Marks at the mark board ====
section
/-! SUPPORT. When a frame's marks join the board, and what a raised mark writes; O51. -/

namespace Sys2Proof.Machine

variable {s : State} {src : Station} {tag : Byte}

/-! ## Marks of a peer (R153, R154) -/

/-- The three conditions on a frame's marks, as the board reads them off the engine (R154). -/
theorem marksAccepted_iff (s : State) (src : Station) (tag : Byte) : marksAccepted s src tag = true ↔
    s.engine.tag ≠ 0 ∧ tag = s.engine.tag ∧ s.engine.mask.getLsbD src.val = true := by
  simp [marksAccepted, and_assoc]

theorem boardAdd_of_accepted (other : src ≠ s.own) (accepted : marksAccepted s src tag = true) (marks : MarkSet) :
    boardAdd src tag marks s = { s with board := { s.board with
      rows := s.board.rows.set src.val (s.board.rows[src] ||| marks) } } := if_pos ⟨other, accepted⟩

theorem boardAdd_of_refused (refused : ¬(src ≠ s.own ∧ marksAccepted s src tag = true)) (marks : MarkSet) :
    boardAdd src tag marks s = s := if_neg refused

theorem hears_iff (p : Participation) : p.hears = true ↔ p = .live ∨ p = .listen := by simp [Participation.hears]

theorem markOp_of_hears (hears : s.line.participation = .live ∨ s.line.participation = .listen) (marks : MarkSet) :
    markOp src tag marks s = boardAdd src tag marks s := if_pos ((hears_iff _).2 hears)

/-- Out of LIVE and LISTEN, or without the three conditions, a MARK leaves the board as it is (R154). -/
theorem markOp_of_refused (refused : ¬((s.line.participation = .live ∨ s.line.participation = .listen) ∧
    marksAccepted s src tag = true)) (marks : MarkSet) : markOp src tag marks s = s := by
  by_cases hears : s.line.participation = .live ∨ s.line.participation = .listen
  · exact (markOp_of_hears hears marks).trans (boardAdd_of_refused (fun accepted => refused ⟨hears, accepted.2⟩) marks)
  · exact if_neg fun heard => hears ((hears_iff _).1 heard)

/-- Noting a frame's source leaves tag and mask alone, so that its marks are judged as before (R154). -/
theorem noted_marksAccepted (src : Station) (tag : Byte) (s : State) :
    marksAccepted (noted src s) src tag = marksAccepted s src tag := by simp [marksAccepted]

/-! ## The marks of a PRESENCE (R155, log entry 28) -/

theorem presenceMarksOp_cons {m : PresenceMarks} {rest : List PresenceMarks} (waits : s.inbox.marks = m :: rest) :
    presenceMarksOp s = boardAdd m.src m.tag m.marks { s with inbox := { s.inbox with marks := rest } } := by
  simp only [presenceMarksOp, waits]

/-! ## An own mark (R157) -/

/-- A raise adds the mark to the own set and the own row, and queues the whole set (R153, R157). -/
theorem raiseMark_eq (m : Fin 32) (s : State) : ∃ sent, StillSent s sent ∧ raiseMark m s = { s with
    board := ⟨s.board.rows.set s.own.val (s.board.own ||| markBit m), s.board.own ||| markBit m⟩
    tx := { s.tx with mark := some ⟨s.engine.tag, s.board.own ||| markBit m⟩ }, line := { s.line with onLine := sent } } :=
  ⟨_, touchSent_stillSent 3 s, rfl⟩

/-- Settles O51: a MARK is judged in the noted state, the marks of a PRESENCE in the state without them. -/
theorem marksJoinTheBoard : Obligations.MarksJoinTheBoard := by
  refine ⟨fun src dst tag marks s peer => ?mark, fun s m rest high waits => ?presence, fun m s => ?raise⟩
  case mark =>
    intro n accepted
    have participation : n.line.participation = s.line.participation := noted_participation src s
    have judged : marksAccepted n src tag = marksAccepted s src tag := noted_marksAccepted src tag s
    refine ⟨fun ⟨hears, handed, conditions⟩ => ?joins, fun refused => ran_takeShared_noted peer ?stays⟩
    case joins =>
      have other : src ≠ n.own := noted_own src s ▸ peer.2.1
      have meets : marksAccepted n src tag = true := judged.trans ((marksAccepted_iff s src tag).2 conditions)
      have board : n.board = s.board := by simp [n]
      refine ran_takeShared peer handed ((markOp_of_hears (participation ▸ hears) marks).trans ?_)
      rw [boardAdd_of_accepted other meets, board]
    case stays =>
      by_cases handed : dst.val < 16 ∨ dst.val = 31
      · refine .inr (markOp_of_refused (fun ⟨hears, meets⟩ => refused ?_) marks)
        exact ⟨participation ▸ hears, handed, (marksAccepted_iff s src tag).1 (judged.symm.trans meets)⟩
      · exact .inl (by omega)
  case presence =>
    let taken := { s with inbox := { s.inbox with marks := rest } }
    have judged : marksAccepted taken m.src m.tag = true ↔ _ := marksAccepted_iff taken m.src m.tag
    have answers {t : State} (adds : boardAdd m.src m.tag m.marks taken = t) : exec .presenceMarks s = .next t :=
      (ran_of_high _ _ high).trans (congrArg _ ((presenceMarksOp_cons waits).trans adds))
    exact ⟨fun ⟨other, conditions⟩ => answers (boardAdd_of_accepted (s := taken) other (judged.2 conditions) m.marks),
      fun refused => answers (boardAdd_of_refused (s := taken) (refused ∘ And.imp_right judged.1) m.marks)⟩
  case raise =>
    obtain ⟨sent, -, raised⟩ := raiseMark_eq m s
    rw [raised]
    exact ⟨rfl, rfl, rfl, rfl⟩

end Sys2Proof.Machine
end

-- ==== The pulses of a frame are heard as its command ====
section
/-! SUPPORT. The cells of a frame read back as that frame, and the pulses of cells as those cells; O60 (R165, R167, R170, R171). -/

namespace Sys2Proof

/-! ## The bytes of a payload (section 11.1) -/

@[simp] theorem payloadBits_length (payload : List Byte) : (payloadBits payload).length = 8 * payload.length := by
  simp [payloadBits, List.length_flatMap, Nat.mul_comm]

/-- The bits of a payload spell its bytes, whatever bits follow. -/
theorem bitsBytes_payloadBits (payload : List Byte) (later : List Bool) :
    bitsBytes payload.length (payloadBits payload ++ later) = payload := by
  induction payload with
  | nil => rfl
  | cons b payload ih =>
    have split : payloadBits (b :: payload) = natBits 8 b.toNat ++ payloadBits payload := List.flatMap_cons
    have byte : BitVec.ofNat 8 (bitsNat (natBits 8 b.toNat)) = b := by
      rw [bitsNat_natBits, Nat.mod_eq_of_lt b.isLt, BitVec.ofNat_toNat, BitVec.setWidth_eq]
    rw [List.length_cons, bitsBytes, split, List.append_assoc, List.take_left' (natBits_length ..),
      List.drop_left' (natBits_length ..), byte, ih]

/-- Cells that all read as bits give those bits. -/
theorem mapM_id_map_some (bits : List Bool) : (bits.map some).mapM id = some bits :=
  List.mapM_map.trans ((List.mapM_pure (m := Option) (f := id)).trans (congrArg some bits.map_id))

namespace WireFrame

variable (f : WireFrame)

/-! ## The receiver's checks on a frame as sent (R167, R170) -/

theorem headerBits_length : f.headerBits.length = 18 := by simp [headerBits]

/-- The header fields, each at its place in the header (Table 11-1). -/
theorem headerBits_fields :
    bitsNat (f.headerBits.take 4) = f.kind.val ∧ bitsNat ((f.headerBits.drop 4).take 4) = f.src.val ∧
      bitsNat ((f.headerBits.drop 8).take 5) = f.dst.val ∧
      bitsNat ((f.headerBits.drop 13).take 5) = f.payload.length % 32 := by
  simp [headerBits, List.drop_append, bitsNat_natBits, List.take_of_length_le, List.drop_of_length_le]

theorem onLine_length (takenLong spoilLong : Bool) :
    (f.onLine takenLong spoilLong).length = 37 + 8 * f.payload.length := by
  simp only [onLine, List.length_append, body_length, List.length_cons, List.length_nil]
  omega

/-- The bits behind the header: the payload, then the CRC (R167). -/
def tailBits : List Bool := payloadBits f.payload ++ natBits 16 (crc16 f.covered).toNat

theorem tailBits_length : f.tailBits.length = 8 * f.payload.length + 16 := by simp [tailBits]

theorem tailBits_crc : bitsNat (f.tailBits.drop (8 * f.payload.length)) = (crc16 f.covered).toNat := by
  rw [tailBits, List.drop_left' (payloadBits_length _), bitsNat_natBits, Nat.mod_eq_of_lt (BitVec.isLt _)]

/-- The cells up to the last length bit, and those behind them up to the last CRC bit, read as the bits they carry. -/
theorem body_read (later : List (Option Bool)) :
    ((f.body.map some ++ later).take 19).mapM id = some (false :: f.headerBits) ∧
      (((f.body.map some ++ later).drop 19).take (8 * f.payload.length + 16)).mapM id = some f.tailBits := by
  have split : f.body.map some ++ later = (false :: f.headerBits).map some ++ (f.tailBits.map some ++ later) := by
    simp [body, covered, tailBits]
  have head : ((false :: f.headerBits).map (some : Bool → Option Bool)).length = 19 := by simp [headerBits_length]
  have tail : (f.tailBits.map (some : Bool → Option Bool)).length = 8 * f.payload.length + 16 := by
    rw [List.length_map, tailBits_length]
  rw [split, List.take_left' head, List.drop_left' head, List.take_left' tail]
  exact ⟨mapM_id_map_some _, mapM_id_map_some _⟩

/-- Every check passes on the cells of a frame within the lengths of its kind. -/
theorem readFrame_body (long : minPayload f.kind.val ≤ f.payload.length) (short : f.payload.length ≤ 20)
    (later : List (Option Bool)) : readFrame (f.body.map some ++ later) = .good f := by
  obtain ⟨header, tail⟩ := f.body_read later
  obtain ⟨kind, src, dst, length⟩ := f.headerBits_fields
  rw [Nat.mod_eq_of_lt (by omega)] at length
  have bytes : bitsBytes f.payload.length f.tailBits = f.payload := bitsBytes_payloadBits f.payload _
  simp only [readFrame, header, headerBits_length, length, tail, kind, src, dst, bytes, tailBits_length]
  simp [tailBits_crc, Nat.not_lt.2 long, Nat.not_lt.2 short]

end WireFrame

/-! ## The cells of pulses (R165) -/

theorem pulseBit_pulseLength (bit : Bool) : pulseBit (pulseLength bit) = some bit := by cases bit <;> rfl

theorem readCells_nil (n before : Nat) : readCells n before [] = List.replicate n none := by
  induction n generalizing before with
  | zero => rfl
  | succ n ih => rw [readCells, List.replicate_succ, ← ih (before + 8000)]; rfl

/-- Pulses on the grid read as the cells they were made for; where they end, the cells have no pulse. -/
theorem readCells_pulsesOf (before n : Nat) (cells : List Bool) (room : cells.length ≤ n) :
    readCells n before (pulsesOf (before + 8000) cells) =
      cells.map some ++ List.replicate (n - cells.length) none := by
  induction cells generalizing before n with
  | nil => exact readCells_nil n before
  | cons bit cells ih =>
    cases n with
    | zero => simp at room
    | succ n =>
      have onTime : onGrid before (before + 8000) = true := by simp [onGrid]
      have fits : cells.length ≤ n := by simpa using room
      simp [pulsesOf, readCells, onTime, pulseBit_pulseLength, ih (before + 8000) n fits]

theorem cellsOf_pulsesOf (time : Nat) (bit : Bool) (cells : List Bool) (room : cells.length ≤ 196) :
    cellsOf (pulsesOf time (bit :: cells)) =
      (bit :: cells).map some ++ List.replicate (196 - cells.length) none := by
  rw [pulsesOf, cellsOf, pulseBit_pulseLength, readCells_pulsesOf time 196 cells room]
  rfl

/-- The pulses of cells come too close for the line to be idle between them. -/
theorem splitIdle_pulsesOf (time : Nat) (bit : Bool) (cells : List Bool) :
    splitIdle (pulsesOf time (bit :: cells)) = [pulsesOf time (bit :: cells)] := by
  induction cells generalizing time bit with
  | nil => rfl
  | cons next cells ih =>
    have busy : idleBetween ⟨time, pulseLength bit⟩ ⟨time + 8000, pulseLength next⟩ = false := by
      simp [idleBetween]; omega
    rw [pulsesOf, splitIdle, ih (time + 8000) next]
    simp [pulsesOf, busy]

/-! ## The frame of a command (R179, Tables 11-1 to 11-8) -/

namespace Laws.RoundTrip

/-- Each frame command by its own law; no other command has a frame. -/
theorem statement (c : Instr) : Statement c := by
  cases c with
  | claim => exact claim _ _ _ _
  | evict => exact evict _ _ _
  | presence => exact presence _ _ _ _ _ _ _
  | mark => exact mark _ _ _ _
  | setup => exact setup _ _ _ _ _
  | stepLoad => exact stepLoad _ _ _ _ _
  | otherKindTaken => exact otherKindTaken _ _ _
  | start => exact start _ _ _
  | pause => exact pause _ _
  | resume => exact resume _ _
  | abort => exact abort _ _
  | skip => exact skip _ _
  | confirm => exact confirm _ _
  | clear => exact clear _ _
  | tare => exact tare _ _
  | openSlot => exact openSlot _ _ _
  | closeSlot => exact closeSlot _ _ _
  | restart => exact restart _ _
  | unknownCommand => exact unknownCommand _ _ _
  | status => exact status _ _
  | sample => exact sample _ _
  | row => exact row _ _ _
  | slot => exact slot _ _ _
  | step => exact step _ _ _
  | journal => exact journal _ _ _
  | marks => exact marks _ _ _
  | unknownItem => exact unknownItem _ _ _ _
  | _ => exact fun _ _ noFrame => nomatch noFrame

end Laws.RoundTrip

namespace WireFrame

variable (f : WireFrame)

/-- A frame as sent whose TAKEN cell a receiver makes long is the command of that frame, whatever cells follow. -/
theorem receive_onLine (long : minPayload f.kind.val ≤ f.payload.length) (short : f.payload.length ≤ 20)
    (later : List (Option Bool)) :
    receive ((f.onLine true false).map some ++ later) = some (commandOf f) := by
  let line := (f.onLine true false).map some ++ later
  have split : line = f.body.map some ++ (some false :: some true :: later) := by simp [line, onLine]
  have good : readFrame line = .good f := by rw [split]; exact f.readFrame_body long short _
  have takes : verdictTakes line f.payload.length = true := by
    have last : (f.body.map (some : Bool → Option Bool)).length = 35 + 8 * f.payload.length := by
      rw [List.length_map, body_length]
    simp [verdictTakes, verdictLong, split, ← last]
  have command : frameCommand line = commandOf f := by simp only [frameCommand, good, takes, if_true]
  have start : receive line = some (frameCommand line) := rfl
  rw [start, command]

end WireFrame

/-- Settles O60: the pulses read as the cells, the cells as the frame, and the frame as its command. -/
theorem framesAreReceivedAsSent : Obligations.FramesAreReceivedAsSent := by
  intro c f wellFormed wire
  obtain ⟨command, long, short⟩ := Laws.RoundTrip.statement c wellFormed f wire
  have received (later : List (Option Bool)) : receive ((f.onLine true false).map some ++ later) = some c := by
    rw [f.receive_onLine long short, command]
  refine ⟨by simpa using received [], fun time => ?heard⟩
  obtain ⟨cells, line⟩ : ∃ cells, f.onLine true false = false :: cells := ⟨_, rfl⟩
  have room : cells.length ≤ 196 := by
    have length := f.onLine_length true false
    rw [line, List.length_cons] at length
    omega
  rw [hear, line, splitIdle_pulsesOf, List.filterMap_cons, cellsOf_pulsesOf time false cells room, ← line, received]
  rfl

end Sys2Proof
end

-- ==== The ways out of LIVE ====
section
/-! SUPPORT. What leaving LIVE leaves of the state, for LISTEN, LINE FAULT and BARRED, and which received frames and timers lead there;
O38 and O55 (R170 to R173, R175 to R178). -/

namespace Sys2Proof.Machine

variable {s : State}

/-! ## Leaving LIVE (R76, R174, R175) -/

/-- A station out of LIVE: LEFT_LIVE written, the slots but for MARK emptied, nothing pending, no usable units, lost power reported;
the line and the rows are as the next participation state has them. -/
def leftLive (reason : LeftReason) (line : Line) (rows : Vector Row 16) (s : State) : State := { s with
  line := line
  tx := { TxSlots.reset with mark := s.tx.mark }
  share := { s.share with rows := rows, pendingEvict := 0, reviewTimer := .stopped, usable := 0 }
  journal := s.journal.add (.station s.engine.tag s.engine.clock (.leftLive reason))
  inbox := { s.inbox with
    usables := s.inbox.usables ++ if 0 = s.share.usable then [] else [0]
    reports := s.inbox.reports ++ [.lostPower] } }

/-- The frame on the line, if any, is one whose station has left LIVE (R175). -/
def SentLeft (s : State) (sent : Option LineFrame) : Prop :=
  sent.map LineFrame.left = s.line.onLine.map fun _ => true

theorem SentLeft.of_some {sent : Option LineFrame} (left : SentLeft s sent) {f : LineFrame}
    (onLine : s.line.onLine = some f) : sent.map LineFrame.left = some true := by rw [left, onLine]; rfl

/-- The rows without the own grant. -/
def ungranted (s : State) : Vector Row 16 := s.share.rows.set s.own.val { s.ownRow with grant := 0 }

theorem ungranted_own (s : State) : (ungranted s)[s.own] = { s.ownRow with grant := 0 } := by simp [ungranted]

/-- The share unit's part of leaving LIVE (R76). -/
theorem shareLeaveLive_eq (s : State) : ∃ sent, sent.map LineFrame.left = s.line.onLine.map LineFrame.left ∧
    shareLeaveLive s = { s with
      line := { s.line with onLine := sent }
      tx := { s.tx with evict := none, claim := none }
      share := { s.share with rows := ungranted s, pendingEvict := 0, reviewTimer := .stopped, usable := 0 }
      inbox := { s.inbox with
        usables := s.inbox.usables ++ if 0 = s.share.usable then [] else [0]
        reports := s.inbox.reports ++ [.lostPower] } } := by
  obtain ⟨sent, -, withdrawn⟩ := setPendingEvict_eq 0 (setOwnGrant 0 s)
  refine ⟨(shareLeaveLive s).line.onLine, (shareLeaveLive_line s).2, ?_⟩
  simp only [shareLeaveLive, withdrawn, setUsable_eq]
  rfl

theorem leaveLive_leftLive (reason : LeftReason) (s : State) : ∃ sent, SentLeft s sent ∧ leaveLive reason s =
    leftLive reason { s.line with presence := .stopped, ownSilence := .stopped, onLine := sent } (ungranted s) s := by
  obtain ⟨sent, left, shared⟩ := shareLeaveLive_eq (framesLeft (setReplySlot none (noteEvent (.leftLive reason) s)))
  refine ⟨sent, left.trans ?_, by rw [leaveLive_eq, shared]; rfl⟩
  simp [framesLeft, Function.comp_def]

/-! ## LISTEN, LINE FAULT and BARRED after LIVE (R175, R177, R178) -/

theorem leaveToListen_leftLive (idle : s.handler.restartPending = false) (reason : LeftReason) :
    ∃ sent, SentLeft s sent ∧ leaveToListen reason s = leftLive reason { s.line with
      participation := .listen, spoil := 0, window := .running, ownSilence := .stopped, presence := .stopped
      quiet := .stopped, onLine := sent } (ownRowOnly s.own s.ownRow.want) s := by
  obtain ⟨sent, left, gone⟩ := leaveLive_leftLive reason s
  have want : (leaveLive reason s).ownRow.want = s.ownRow.want := by
    rw [gone]; exact (congrArg Row.want (ungranted_own s) :)
  refine ⟨sent, left, ?_⟩
  rw [leaveToListen, restartAfter_idle _ (by simpa using idle), enterListen_eq, want, gone]
  rfl

theorem enterLineFault_leftLive (idle : s.handler.restartPending = false) : ∃ sent, SentLeft s sent ∧
    enterLineFault s = leftLive .lineFault { s.line with
      participation := .lineFault, spoil := 8, quiet := .running, presence := .stopped, ownSilence := .stopped
      onLine := sent } (ungranted s) s := by
  obtain ⟨sent, left, gone⟩ := leaveLive_leftLive .lineFault s
  refine ⟨sent, left, ?_⟩
  rw [enterLineFault, restartAfter_idle _ (by simpa using idle), gone]
  rfl

/-- The line as a station that is barred has it: its timers but for PRESENCE stopped (R178). -/
def barredLine (line : Line) : Line :=
  { line with participation := .barred, window := .stopped, ownSilence := .stopped, quiet := .stopped }

theorem enterBarred_live (idle : s.handler.restartPending = false) (live : s.line.participation = .live) :
    ∃ sent, enterBarred s = report .barred { leftLive .barred
      (barredLine { s.line with presence := .stopped, onLine := sent }) (ungranted s) s with tx := .reset } := by
  obtain ⟨sent, -, gone⟩ := leaveLive_leftLive .barred s
  simp only [enterBarred, live, if_true, gone]
  rw [restartAfter_idle _ (by simpa [leftLive] using idle)]
  exact ⟨_, rfl⟩

theorem enterBarred_away (idle : s.handler.restartPending = false) (away : s.line.participation ≠ .live) :
    ∃ sent, enterBarred s = report .barred { s with
      line := barredLine { s.line with onLine := sent }, tx := { s.tx with mark := none } } := by
  simp only [enterBarred, away, if_false]
  rw [restartAfter_idle _ (by simpa using idle)]
  exact ⟨_, rfl⟩

/-! ## A frame with the own number (R172, R178) -/

/-- A taken frame with the own number bars the station, whatever would have handled it. -/
theorem ran_ownNumber (high : s.resetN = true) (kept : s.line.abandoned = false) (free : s.line.participation ≠ .barred)
    {op handle : State → State} (takes : op s = takeFrame s.own handle s) :
    ran op s = .next (enterBarred (checkedGood s)) := by
  have duplicate : s.own = (checkedGood s).own ∧ (checkedGood s).line.participation ≠ .barred := ⟨rfl, free⟩
  rw [ran_of_high _ _ high, takes, takeFrame, atFrameEnd_of_kept _ _ kept, handleFrame, if_pos duplicate]

/-- Settles O38: every taken frame with the own number ends as `enterBarred` does, from LIVE or from elsewhere. -/
theorem duplicateNumberBarsTheStation : Obligations.DuplicateNumberBarsTheStation := by
  intro dst a b w m marks record args opening closing s high kept free idle c frame
  refine ⟨enterBarred (checkedGood s), ?bars, ?_⟩
  case bars =>
    revert c
    simp only [List.forall_mem_cons, List.not_mem_nil, false_implies, implies_true, and_true]
    and_intros <;> exact ran_ownNumber high kept free rfl
  by_cases live : s.line.participation = .live
  · obtain ⟨sent, bars⟩ := enterBarred_live (s := checkedGood s) idle live
    rw [bars]
    exact ⟨rfl, rfl, rfl, rfl, rfl,
      fun _ => ⟨rfl, rfl, ungranted_own s, rfl, rfl, rfl, rfl, List.append_assoc ..⟩, fun away => absurd live away,
      fun i other => set_row_ne other _ _, rfl⟩
  · obtain ⟨sent, bars⟩ := enterBarred_away (s := checkedGood s) idle live
    rw [bars]
    exact ⟨rfl, rfl, rfl, rfl, rfl, fun isLive => absurd isLive live, fun _ => ⟨rfl, rfl, rfl, rfl⟩, fun _ _ => rfl,
      rfl⟩

/-! ## Bad frames, frames not taken, and own silence (R170, R171, R173, R175 to R177) -/

/-- A row that is the own one by its fields, cleared to its want, is the row without its grant (R51, R71). -/
theorem Row.cleared_eq {r : Row} (self : r.status = .self) (settled : r.settled = true) (silence : r.silence = .stopped) :
    (⟨.self, 0, r.want, true, .stopped⟩ : Row) = { r with grant := 0 } := by
  rw [← self, ← settled, ← silence]

/-- In LIVE the station drives SPOIL for a bad frame whose verdict cells it can place, and counts it (R170, R173). -/
theorem foundBad_live (live : s.line.participation = .live) (verdict : BadVerdict) : foundBad verdict s =
    badLive verdict { s with line := { s.line with verdict := badDriven .live verdict } } := by
  simp only [foundBad, live]

/-- The eighth bad frame leads to LINE FAULT (R177). -/
theorem foundBad_eighth (live : s.line.participation = .live) (spoiled : s.line.spoil = 7) (verdict : BadVerdict) :
    foundBad verdict s = enterLineFault { s with line := { s.line with verdict := badDriven .live verdict } } := by
  rw [foundBad_live live]
  exact if_pos spoiled.ge

/-- A frame that could not be checked leads to LISTEN (R173). -/
theorem foundBad_unplaced (live : s.line.participation = .live) (few : s.line.spoil < 7) :
    foundBad .unplaced s = leaveToListen .unchecked { s with line := { s.line with verdict := .nothing } } := by
  rw [foundBad_live live]
  exact (if_neg few.not_ge).trans (if_pos rfl)

theorem foundBad_read (live : s.line.participation = .live) (few : s.line.spoil < 7) (taken spoil : Bool) :
    foundBad (.read taken spoil) s =
      { s with line := { s.line with verdict := .spoil, spoil := s.line.spoil + 1 } } := by
  rw [foundBad_live live]
  exact (if_neg few.not_ge).trans (if_neg nofun)

/-- Out of LIVE and LISTEN a bad frame is one more frame without a verdict of this station (R170, R173). -/
theorem foundBad_deaf (deaf : s.line.participation = .lineFault ∨ s.line.participation = .barred) (verdict : BadVerdict) :
    foundBad verdict s = { s with line := { s.line with verdict := .nothing } } := by
  rcases deaf with fault | barred
  · simp only [foundBad, fault]; rfl
  · simp only [foundBad, barred]; rfl

/-- In LISTEN a bad frame that others may have taken starts the window and the table again (R71, R173). -/
theorem foundBad_listen (listen : s.line.participation = .listen) (verdict : BadVerdict) : foundBad verdict s =
    if unchecked verdict = true then startWindow { s with line := { s.line with verdict := .nothing } }
    else { s with line := { s.line with verdict := .nothing } } := by
  simp only [foundBad, listen]; rfl

theorem unchecked_read (taken spoil : Bool) : unchecked (.read taken spoil) = true ↔ taken = true ∧ spoil = false := by
  simp [unchecked]

/-- Settles O55: each bad frame and own silence by where it leads, and what `leftLive` and `startWindow` leave there. -/
theorem badFramesAndSilenceEndLive : Obligations.BadFramesAndSilenceEndLive := by
  unfold Obligations.BadFramesAndSilenceEndLive
  intro leaves listens s high idle kept self settled silence
  have answers {op : State → State} {t : State} (ends : op s = t) : ran op s = .next t :=
    (ran_of_high _ _ high).trans (congrArg _ ends)
  have ends {frame : State → State} {t : State} (frameEnds : frame s = t) : ran (atFrameEnd frame) s = .next t :=
    answers ((atFrameEnd_of_kept _ _ kept).trans frameEnds)
  have left {reason : LeftReason} {line : Line} {rows : Vector Row 16}
      (row : rows[s.own] = { s.ownRow with grant := 0 }) (presence : line.presence = .stopped)
      (ownSilence : line.ownSilence = .stopped) (sent : SentLeft s line.onLine) :
      leaves reason s (leftLive reason line rows s) :=
    ⟨rfl, row, rfl, rfl, rfl, rfl, rfl, rfl, presence, ownSilence, fun _ onLine => sent.of_some onLine, rfl⟩
  have cleared : (ownRowOnly s.own s.ownRow.want)[s.own] = { s.ownRow with grant := 0 } :=
    ((ownRowOnly_row ..).trans (if_pos rfl)).trans (Row.cleared_eq self settled silence)
  have absent (i : Station) (other : i ≠ s.own) : (ownRowOnly s.own s.ownRow.want)[i] = Row.absent :=
    (ownRowOnly_row ..).trans (if_neg other)
  refine ⟨fun live => ⟨fun running receiving => ?silence,
      fun few => ⟨fun taken spoil => ends (foundBad_read live few taken spoil), ?unplaced⟩,
      fun spoiled verdict c bad => ?eighth, ends ?spoiled⟩,
    fun away => ends ?notTaken, fun deaf verdict => ends (foundBad_deaf deaf verdict),
    fun listen taken spoil => ⟨fun mayBeTaken verdict bad => ?unchecked, fun notTaken => ends ?checked⟩⟩
  case silence =>
    obtain ⟨sent, isLeft, listened⟩ := leaveToListen_leftLive idle .ownSilence
    have due : ownSilenceOp receiving s = leaveToListen .ownSilence s :=
      (if_pos ⟨live, running⟩).trans (whileReceiving_of_none _ _ _ idle)
    exact ⟨_, answers (due.trans listened), left cleared rfl rfl isLeft, ⟨rfl, rfl, rfl, absent⟩, kept⟩
  case unplaced =>
    let judged : State := { s with line := { s.line with verdict := .nothing } }
    obtain ⟨sent, isLeft, listened⟩ := leaveToListen_leftLive (s := judged) idle .unchecked
    exact ⟨_, ends ((foundBad_unplaced live few).trans listened), left cleared rfl rfl isLeft, rfl, rfl, rfl, absent⟩
  case eighth =>
    let judged : State := { s with line := { s.line with verdict := badDriven .live verdict } }
    obtain ⟨sent, isLeft, faulted⟩ := enterLineFault_leftLive (s := judged) idle
    have found : foundBadOp verdict s = enterLineFault judged :=
      (atFrameEnd_of_kept _ _ kept).trans (foundBad_eighth live spoiled verdict)
    have answered : exec c s = .next (enterLineFault judged) := by
      have eighth : eighthBadOp verdict s = foundBadOp verdict s := if_pos ⟨live, spoiled.ge⟩
      simp only [List.mem_cons, List.not_mem_nil, or_false] at bad
      rcases bad with rfl | rfl
      · exact answers found
      · exact answers (eighth.trans found)
    refine ⟨_, answered.trans (congrArg _ faulted), left (ungranted_own s) rfl rfl isLeft, rfl, ?driven, rfl, rfl,
      fun i other => set_row_ne other _ _⟩
    cases verdict <;> rfl
  case spoiled => simp only [checkedGood, goodDriven, live, if_true]
  case notTaken => simp only [checkedGood, goodDriven, away, if_false]
  case unchecked =>
    have counts : unchecked verdict = true := by
      simp only [List.mem_cons, List.not_mem_nil, or_false] at bad
      rcases bad with rfl | rfl
      · rfl
      · exact (unchecked_read taken spoil).2 mayBeTaken
    exact ⟨_, ends ((foundBad_listen listen verdict).trans (if_pos counts)), rfl, absent, cleared, rfl⟩
  case checked =>
    exact (foundBad_listen listen _).trans (if_neg ((unchecked_read taken spoil).not.2 notTaken))

end Sys2Proof.Machine
end

-- ==== Requests not acted on, and the panel's check ====
section
/-! SUPPORT. What is not acted on is noted alone, and what a COMMAND and a STEP LOAD that are not the panel's are answered; O39
(R179, R182, R183). -/

namespace Sys2Proof.Machine

variable {s : State} {src : Station} {dst : Dest}

/-! ## What each row of the table hands to the request handler (R182, R183) -/

/-- The command `c` is a taken request, handled if it is acted on. -/
def TakesRequest (src : Station) (dst : Dest) (s : State) (c : Instr) : Prop :=
  ∃ handle, exec c s = ran (takeRequest src dst handle) s

/-- The command `c` is a taken COMMAND, which its owner carries out once it has passed the checks. -/
def TakesCommand (src : Station) (dst : Dest) (s : State) (c : Instr) : Prop :=
  ∃ act, exec c s = ran (takeCommand src dst act) s

theorem TakesCommand.takesRequest {c : Instr} : TakesCommand src dst s c → TakesRequest src dst s c :=
  fun ⟨act, takes⟩ => ⟨handleCommand src act, takes⟩

theorem knownCommand_of_unlisted {code : Byte} (unlisted : code.toNat = 0 ∨ 12 ≤ code.toNat) :
    knownCommand code = false := by
  rw [knownCommand, within_eq, decide_eq_false_iff_not]
  omega

/-- A code outside Table 11-4 is taken as a COMMAND whose owner answers UNKNOWN. -/
theorem exec_unknownCommand {code : Byte} (unlisted : code.toNat = 0 ∨ 12 ≤ code.toNat) (src : Station) (dst : Dest)
    (s : State) : exec (.unknownCommand src dst code) s = ran (takeCommand src dst fun s => (.unknown, s)) s := by
  show ran (fun s => if knownCommand code then s else takeCommand src dst _ s) s = _
  simp only [knownCommand_of_unlisted unlisted, Bool.false_eq_true, if_false]

/-- A START that is not the panel's broadcast is taken as the other COMMANDs are (R27, R182). -/
theorem exec_start_of_narrow (peer : PeerFrame src s)
    (narrow : dst.val ≠ 31 ∨ s.handler.panel ≠ some src ∨ s.handler.restartPending = true) (args : Option StartArgs) :
    exec (.start src dst args) s = ran (takeCommand src dst (startAct args)) s := by
  have narrow : ¬broadcastActs src dst (noted src s) = true := by
    simp only [broadcastActs, noted_frame, Bool.and_eq_true, decide_eq_true_eq, Bool.not_eq_true']
    rintro ⟨⟨broadcast, panel⟩, free⟩
    rcases narrow with own | other | pending
    · exact own broadcast
    · exact other panel
    · exact Bool.false_ne_true (free.symm.trans pending)
  show ran (takeStart src dst args) s = _
  rw [ran_of_high _ _ peer.1, ran_of_high _ _ peer.1, takeStart, takeCommand, takeRequest, takeFrame_peer peer,
    takeFrame_peer peer]
  exact congrArg _ (if_neg narrow)

/-! ## A request that is not acted on (R182) -/

theorem actedOn_noted (dst : Dest) (src : Station) (s : State) : actedOn dst (noted src s) = actedOn dst s := by
  simp only [actedOn, noted_frame, noted_participation, noted_own]

theorem actedOn_eq_false
    (idle : s.line.participation ≠ .live ∨ dst.val ≠ s.own.val ∨ s.handler.restartPending = true) :
    actedOn dst s = false := by
  rcases idle with away | other | pending
  · simp [actedOn, away]
  · simp [actedOn, other]
  · simp [actedOn, pending]

theorem TakesRequest.noted_of_idle {c : Instr} (takes : TakesRequest src dst s c) (peer : PeerFrame src s)
    (idle : s.line.participation ≠ .live ∨ dst.val ≠ s.own.val ∨ s.handler.restartPending = true) :
    exec c s = .next (noted src s) := by
  obtain ⟨handle, takes⟩ := takes
  have unacted : ¬actedOn dst (noted src s) = true := by simp [actedOn_noted, actedOn_eq_false idle]
  rw [takes, ran_of_high _ _ peer.1, takeRequest, takeFrame_peer peer, if_neg unacted]

/-! ## The panel's check (R183) -/

/-- The result that the panel's check gives a station that is not the panel. -/
theorem panelCheck_other (other : s.handler.panel ≠ some src) :
    panelCheck src s = some (if s.handler.panel = none then .notSet else .notPanel) := by
  cases panel : s.handler.panel with
  | none => simp only [panelCheck, panel, if_true]
  | some p =>
    have differs : p ≠ src := fun same => other (panel.trans (congrArg some same))
    simp only [panelCheck, panel, differs, if_false, reduceCtorEq]

theorem panelCheck_noted (src : Station) (s : State) : panelCheck src (noted src s) = panelCheck src s := by
  simp only [panelCheck, noted_frame]

section Refused

variable {refusal : ResultCode} (directed : Directed src dst s) (refused : panelCheck src s = some refusal)
include directed refused

/-- The owner of a COMMAND that the check refuses does not act (R183). -/
theorem TakesCommand.answered_of_refused {c : Instr} (takes : TakesCommand src dst s c) :
    exec c s = .next (commandReplied src refusal (noted src s)) := by
  obtain ⟨act, takes⟩ := takes
  refine takes.trans (ran_takeRequest directed ?_)
  rw [handleCommand, panelCheck_noted, refused]
  rfl

/-- A STEP LOAD that the check refuses shows the slot it named, if there is one (R183, log entry 23). -/
theorem stepLoad_of_refused (b index : Byte) (record : StepBytes) :
    (∀ k : Fin 4, b.toNat = k.val → exec (.stepLoad src dst b index record) s =
      .next (setReplySlot (some ⟨src, 5, refusal, 0, slotData s.slots[k]⟩) (noted src s))) ∧
    (4 ≤ b.toNat → exec (.stepLoad src dst b index record) s =
      .next (setReplySlot (some ⟨src, 5, refusal, 0, []⟩) (noted src s))) := by
  have refused : panelCheck src (noted src s) = some refusal := (panelCheck_noted src s).trans refused
  refine ⟨fun k same => ran_takeRequest directed ?_, fun outside => ran_takeRequest directed ?_⟩
  · simp only [handleLoad, slotOf_of_eq same, refused, noted_frame]
    rfl
  · simp only [handleLoad, slotOf_of_le outside, refused]
    rfl

end Refused

/-- Settles O39: each row's handler first, then a request that is not acted on, a refusal by the panel's check, and what
the panel's own COMMAND is answered when its code or its length is bad. -/
theorem requestsAreCheckedInOrder : Obligations.RequestsAreCheckedInOrder := by
  intro src dst a b code w record args opening closing s peer unlisted n commands others
  have commandsTake : ∀ c ∈ commands, TakesCommand src dst s c := by
    simp only [commands, List.forall_mem_cons, List.not_mem_nil, false_implies, implies_true, and_true]
    exact ⟨⟨pauseAct, rfl⟩, ⟨resumeAct, rfl⟩, ⟨abortAct, rfl⟩, ⟨skipAct, rfl⟩, ⟨confirmAct, rfl⟩, ⟨clearAct, rfl⟩,
      ⟨tareAct, rfl⟩, ⟨openSlotAct opening, rfl⟩, ⟨closeSlotAct closing, rfl⟩, ⟨_, rfl⟩,
      ⟨_, exec_unknownCommand unlisted src dst s⟩⟩
  have othersTake : ∀ c ∈ others, TakesRequest src dst s c := by
    simp only [others, List.forall_mem_cons, List.not_mem_nil, false_implies, implies_true, and_true]
    exact ⟨⟨handleSetup src w w a, rfl⟩, ⟨handleLoad src a b record, rfl⟩, ⟨statusReply src, rfl⟩,
      ⟨handleQuery src sampleItem, rfl⟩, ⟨handleQuery src (rowItem a), rfl⟩, ⟨handleQuery src (slotItem a), rfl⟩,
      ⟨handleQuery src (stepItem a), rfl⟩, ⟨handleQuery src (journalItem a), rfl⟩, ⟨handleQuery src (marksItem a), rfl⟩,
      ⟨unknownItemReply src, rfl⟩⟩
  have startTakes (narrow : dst.val ≠ 31 ∨ s.handler.panel ≠ some src ∨ s.handler.restartPending = true) :
      TakesCommand src dst s (.start src dst args) := ⟨startAct args, exec_start_of_narrow peer narrow args⟩
  refine ⟨fun idle => ⟨fun c listed => ?noted, fun narrow => (startTakes narrow).takesRequest.noted_of_idle peer idle⟩,
    fun live own pending => ?acted⟩
  case noted =>
    have takes : TakesRequest src dst s c :=
      (List.mem_append.1 listed).elim (fun command => (commandsTake c command).takesRequest) (othersTake c)
    exact takes.noted_of_idle peer idle
  case acted =>
    have directed : Directed src dst s := ⟨peer, live, own, pending⟩
    have refuses {refusal : ResultCode} (other : s.handler.panel ≠ some src) (refused : panelCheck src s = some refusal) :
        ∀ c ∈ Instr.start src dst args :: commands, exec c s = .next (commandReplied src refusal n) :=
      List.forall_mem_cons.2 ⟨(startTakes (.inr (.inl other))).answered_of_refused directed refused,
        fun c command => (commandsTake c command).answered_of_refused directed refused⟩
    refine ⟨fun unset => ?notSet, fun set other => refuses other ((panelCheck_other other).trans (by rw [if_neg set])),
      fun other => stepLoad_of_refused directed (panelCheck_other other) a b record, fun panel => ?panel⟩
    case notSet =>
      have other : s.handler.panel ≠ some src := by simp [unset]
      exact refuses other ((panelCheck_other other).trans (by rw [if_pos unset]))
    case panel =>
      have fromPanel : FromPanel src dst s := ⟨directed, panel⟩
      refine ⟨(exec_unknownCommand unlisted src dst s).trans (ran_takeCommand fromPanel _ rfl), ?short⟩
      simp only [List.forall_mem_cons, List.not_mem_nil, false_implies, implies_true, and_true]
      exact ⟨start_directed fromPanel rfl, ran_takeCommand fromPanel (openSlotAct none) rfl,
        ran_takeCommand fromPanel (closeSlotAct none) rfl⟩

end Sys2Proof.Machine
end

-- ==== Every command answers a next state and leaves the queue ====
section
/-! SUPPORT. What leaves the queue of commands as it was: a taking of events, the end of a frame and a request as far as the work done in
it does; O1 and O2. -/

namespace Sys2Proof.Machine

/-- An operation after which the queue is as it was, whatever the state. -/
def LeavesQueue (op : State → State) : Prop := ∀ s, (op s).pending = s.pending

theorem LeavesQueue.id : LeavesQueue id := fun _ => rfl

/-- An operation that acts on a condition leaves the queue when it does on either side of it. -/
theorem pending_ite {c : Prop} [Decidable c] {s a b : State} (act : a.pending = s.pending) (idle : b.pending = s.pending) :
    (if c then a else b).pending = s.pending := by
  split
  · exact act
  · exact idle

/-! ## Events taken (log entry 4) -/

section Takes

variable {op : SampleSet → State → State} (leaves : ∀ set, LeavesQueue (op set))

include leaves

theorem takeHeaterSet_leavesQueue : LeavesQueue (takeHeaterSet op) := by
  intro s
  unfold takeHeaterSet
  split
  · rfl
  · exact leaves _ _

theorem takeScaleSet_leavesQueue : LeavesQueue (takeScaleSet op) := by
  intro s
  unfold takeScaleSet
  split
  · rfl
  · exact leaves _ _

theorem takeStirrerSet_leavesQueue : LeavesQueue (takeStirrerSet op) := by
  intro s
  unfold takeStirrerSet
  split
  · rfl
  · exact leaves _ _

theorem takeEngineSet_leavesQueue : LeavesQueue (takeEngineSet op) := by
  intro s
  unfold takeEngineSet
  split
  · rfl
  · exact leaves _ _

end Takes

theorem takeReport_leavesQueue (r : Report) {op : State → State} (leaves : LeavesQueue op) :
    LeavesQueue (takeReport r op) :=
  fun _ => pending_ite (leaves _) rfl

theorem heaterSets_leaveQueue : LeavesQueue (takeHeaterSet heaterSetOp) :=
  takeHeaterSet_leavesQueue fun _ _ => by simp

theorem stirrerSets_leaveQueue : LeavesQueue (takeStirrerSet stirrerSetOp) :=
  takeStirrerSet_leavesQueue fun _ _ => by simp

theorem engineSets_leaveQueue : LeavesQueue (takeEngineSet engineSetOp) :=
  takeEngineSet_leavesQueue fun _ _ => by simp

theorem stirrerCase_leavesQueue (due : Stirrer → SampleSet → Bool) : LeavesQueue (stirrerCase due) := by
  intro s
  unfold stirrerCase
  split
  · rfl
  · exact pending_ite (stirrerSets_leaveQueue s) rfl

theorem engineCase_leavesQueue (due : StepRec → SampleSet → State → Bool) : LeavesQueue (engineCase due) := by
  intro s
  unfold engineCase
  split
  · exact pending_ite (engineSets_leaveQueue s) rfl
  · rfl

theorem raiseWhen_leavesQueue (cause : HoldCause) (suits : State → Bool) : LeavesQueue (raiseWhen cause suits) :=
  fun _ => pending_ite (by simp) rfl

/-! ## RESTART and the ways out of LIVE (R175, R177, R178, R186) -/

theorem restart_leavesQueue : LeavesQueue restart := fun s => by rw [restart_eq]; rfl

theorem restartAfter_leavesQueue (replied : Bool) : LeavesQueue (restartAfter replied) :=
  fun s => pending_ite (restart_leavesQueue s) rfl

theorem leaveToListen_leavesQueue (reason : LeftReason) : LeavesQueue (leaveToListen reason) :=
  fun _ => (restartAfter_leavesQueue _ _).trans (by simp)

theorem enterLineFault_leavesQueue : LeavesQueue enterLineFault :=
  fun _ => (restartAfter_leavesQueue _ _).trans (by simp)

theorem enterBarred_leavesQueue : LeavesQueue enterBarred := by
  intro s
  refine (restartAfter_leavesQueue _ _).trans ?_
  split <;> simp

/-! ## The end of an own frame (R171) -/

theorem ownerTaken_leavesQueue (f : LineFrame) : LeavesQueue (ownerTaken f) := by
  intro s
  unfold ownerTaken
  split
  case h_4 => exact restartAfter_leavesQueue _ s
  all_goals simp

theorem ownerDropped_leavesQueue (f : LineFrame) : LeavesQueue (ownerDropped f) := by
  intro s
  unfold ownerDropped
  split
  case h_4 => exact restartAfter_leavesQueue _ s
  all_goals simp

theorem endOffer_leavesQueue (taken : Bool) : LeavesQueue (endOffer taken) := by
  intro s
  unfold endOffer
  split
  · rfl
  · split
    · exact ownerTaken_leavesQueue _ _
    · exact ownerDropped_leavesQueue _ _

/-! ## Received frames (R166, R171, R173) -/

theorem whileReceiving_leavesQueue (receiving : Bool) {op : State → State} (leaves : LeavesQueue op) :
    LeavesQueue (whileReceiving receiving op) := by
  intro s
  obtain ⟨abandoned, eq⟩ := whileReceiving_eq receiving op s
  rw [eq]
  exact leaves s

theorem atFrameEnd_leavesQueue {op : State → State} (leaves : LeavesQueue op) : LeavesQueue (atFrameEnd op) :=
  fun s => pending_ite rfl (leaves s)

theorem badLive_leavesQueue (verdict : BadVerdict) : LeavesQueue (badLive verdict) :=
  fun s => pending_ite (enterLineFault_leavesQueue s) (pending_ite (leaveToListen_leavesQueue _ s) rfl)

theorem foundBad_leavesQueue (verdict : BadVerdict) : LeavesQueue (foundBad verdict) := by
  intro s
  simp only [foundBad]
  split
  case h_1 => exact badLive_leavesQueue verdict _
  case h_2 => split <;> simp
  all_goals rfl

theorem foundBadOp_leavesQueue (verdict : BadVerdict) : LeavesQueue (foundBadOp verdict) :=
  atFrameEnd_leavesQueue (foundBad_leavesQueue verdict)

theorem eighthBadOp_leavesQueue (verdict : BadVerdict) : LeavesQueue (eighthBadOp verdict) :=
  fun s => pending_ite (foundBadOp_leavesQueue verdict s) rfl

theorem ownSilenceOp_leavesQueue (receiving : Bool) : LeavesQueue (ownSilenceOp receiving) :=
  fun s => pending_ite (whileReceiving_leavesQueue _ (leaveToListen_leavesQueue _) s) rfl

theorem takeFrame_leavesQueue (src : Station) {handle : State → State} (leaves : LeavesQueue handle) :
    LeavesQueue (takeFrame src handle) := by
  refine atFrameEnd_leavesQueue fun s => ?_
  simp only [handleFrame]
  split
  · exact enterBarred_leavesQueue _
  · exact (leaves _).trans (by simp)

theorem takeShared_leavesQueue (src : Station) (dst : Dest) {handle : State → State} (leaves : LeavesQueue handle) :
    LeavesQueue (takeShared src dst handle) :=
  takeFrame_leavesQueue src fun s => pending_ite (leaves s) rfl

theorem takeRequest_leavesQueue (src : Station) (dst : Dest) {handle : State → State} (leaves : LeavesQueue handle) :
    LeavesQueue (takeRequest src dst handle) :=
  takeFrame_leavesQueue src fun s => pending_ite (leaves s) rfl

/-! ## Commands of the panel (R183) -/

/-- A command's operation leaves the queue when the state it hands back with its result does. -/
def ActLeavesQueue (act : State → ResultCode × State) : Prop := ∀ s, (act s).2.pending = s.pending

theorem handleCommand_leavesQueue (src : Station) {act : State → ResultCode × State} (leaves : ActLeavesQueue act) :
    LeavesQueue (handleCommand src act) := by
  intro s
  unfold handleCommand answerCommand
  split
  · simp
  · exact Eq.trans (by simp) (leaves s)

theorem takeCommand_leavesQueue (src : Station) (dst : Dest) {act : State → ResultCode × State}
    (leaves : ActLeavesQueue act) : LeavesQueue (takeCommand src dst act) :=
  takeRequest_leavesQueue src dst (handleCommand_leavesQueue src leaves)

theorem startAct_leavesQueue (args : Option StartArgs) : ActLeavesQueue (startAct args) := by
  intro s
  unfold startAct
  (repeat' split) <;> simp

theorem takeStart_leavesQueue (src : Station) (dst : Dest) (args : Option StartArgs) :
    LeavesQueue (takeStart src dst args) :=
  takeFrame_leavesQueue src fun s => pending_ite (startAct_leavesQueue args s) <|
    pending_ite (handleCommand_leavesQueue src (startAct_leavesQueue args) s) rfl

theorem pauseAct_leavesQueue : ActLeavesQueue pauseAct := by
  intro s
  unfold pauseAct
  split <;> simp

theorem resumeAct_leavesQueue : ActLeavesQueue resumeAct := by
  intro s
  unfold resumeAct
  (repeat' split) <;> simp

theorem abortAct_leavesQueue : ActLeavesQueue abortAct := by
  intro s
  unfold abortAct
  split <;> simp

theorem skipAct_leavesQueue : ActLeavesQueue skipAct := by
  intro s
  unfold skipAct
  (repeat' split) <;> simp

theorem confirmAct_leavesQueue : ActLeavesQueue confirmAct := by
  intro s
  unfold confirmAct
  (repeat' split) <;> simp

theorem clearAct_leavesQueue : ActLeavesQueue clearAct := by
  intro s
  unfold clearAct
  (repeat' split) <;> simp

theorem tareAct_leavesQueue : ActLeavesQueue tareAct := by
  intro s
  unfold tareAct
  (repeat' split) <;> rfl

/-- A request at a slot that refuses leaves all as it was (R2). -/
theorem atSlot_leavesQueue (b : Byte) {act : State → Fin 4 → Slot → ResultCode × State}
    (leaves : ∀ k slot, ActLeavesQueue fun s => act s k slot) : ActLeavesQueue fun s => atSlot b s (act s) := by
  intro s
  simp only [atSlot]
  split
  · rfl
  · split
    · rfl
    · exact leaves _ _ s

theorem openSlotAct_leavesQueue (args : Option (Byte × Byte)) : ActLeavesQueue (openSlotAct args) := by
  match args with
  | none => exact fun _ => rfl
  | some (slot, count) =>
    refine atSlot_leavesQueue slot fun k _ s => ?_
    dsimp only
    split <;> rfl

theorem closeSlotAct_leavesQueue (args : Option (Byte × Word16)) : ActLeavesQueue (closeSlotAct args) := by
  match args with
  | none => exact fun _ => rfl
  | some (slot, check) =>
    refine atSlot_leavesQueue slot fun k _ s => ?_
    dsimp only
    split <;> rfl

/-! ## The other requests (R10, R181, R184) -/

theorem handleLoad_leavesQueue (src : Station) (slot index : Byte) (record : StepBytes) :
    LeavesQueue (handleLoad src slot index record) := by
  intro s
  unfold handleLoad
  split
  case h_3 =>
    simp only [loadAt, answer_frame]
    split <;> rfl
  all_goals simp

theorem handleSetup_leavesQueue (src : Station) (zero cpk : Word16) (probe : Byte) :
    LeavesQueue (handleSetup src zero cpk probe) := by
  intro s
  unfold handleSetup
  split <;> simp [setupTaken]

theorem handleQuery_leavesQueue (src : Station) (item : State → Option (Byte × List Byte)) :
    LeavesQueue (handleQuery src item) := by
  intro s
  unfold handleQuery
  (repeat' split) <;> simp

theorem takeQuery_leavesQueue (src : Station) (dst : Dest) (item : State → Option (Byte × List Byte)) :
    LeavesQueue (takeQuery src dst item) := takeRequest_leavesQueue src dst (handleQuery_leavesQueue src item)

/-! ## Every command (log entry 33) -/

/-- A command completes: it answers a next state with the queue as it was. -/
def Completed (s : State) (r : Result) : Prop := ∃ t, r = .next t ∧ t.pending = s.pending

/-- An operation of the running block that leaves the queue completes, RESET_N high or low. -/
theorem ran_completed {op : State → State} (leaves : LeavesQueue op) (s : State) : Completed s (ran op s) :=
  ⟨_, rfl, pending_ite (leaves s) rfl⟩

theorem execEconomy_completed (s : State) : Completed s (execEconomy s) := by
  refine ran_completed (fun u => ?_) s
  split
  · rfl
  · exact pending_ite (heaterSets_leaveQueue u) rfl

/-- Each command is one operation of the running block but for the two of RESET_N itself. -/
theorem exec_completed (c : Instr) (s : State) : Completed s (exec c s) := by
  cases c with
  | reset | resetAsserted => exact ⟨_, rfl, rfl⟩
  -- the operations whose frame is a law of its own
  | gateEnd | filteredLevelChange | burstSlotEnd | usableUnits | rawBowlOpenHeater | rawBowlOpenStirrer | rawBowlSeated
  | lockSensed | lockDropped | lockTimerExpiry | spinupTimerExpiry | wantChange | claimReviewTimer | silenceTimer
  | tableReady | offer | presenceTimer | listenWindow | quietTimer | presenceMarks =>
    exact ran_completed (fun _ => by simp) s
  | secondBoundary | debouncedStateChange | rangeConditionChange =>
    exact ran_completed (fun _ => pending_ite (by simp) rfl) s
  -- sample sets
  | heaterSampleSet => exact ran_completed heaterSets_leaveQueue s
  | economy => exact execEconomy_completed s
  | stirrerSampleSet => exact ran_completed stirrerSets_leaveQueue s
  | stall | stoppingEnd | lockRelease | intervalPhaseEnd => exact ran_completed (stirrerCase_leavesQueue _) s
  | scaleSampleSet => exact ran_completed (takeScaleSet_leavesQueue fun _ _ => by simp) s
  | engineSampleSet => exact ran_completed engineSets_leaveQueue s
  | durationEnd | holdAboveReached | dipReset | timeout => exact ran_completed (engineCase_leavesQueue _) s
  -- reports to the engine
  | bowlReport | lidReport | stallReport | sensor | overtemp | lidSense | budgetMismatch | barred | addSatisfied =>
    exact ran_completed (takeReport_leavesQueue _ fun _ => by simp) s
  | probeReport | scaleReport | overweight | lostPower =>
    exact ran_completed (takeReport_leavesQueue _ (raiseWhen_leavesQueue _ _)) s
  -- line controller
  | echoFault => exact ran_completed (whileReceiving_leavesQueue _ (endOffer_leavesQueue _)) s
  | ownFrameTaken | ownFrameDropped => exact ran_completed (endOffer_leavesQueue _) s
  | frameFoundBad => exact ran_completed (foundBadOp_leavesQueue _) s
  | frameSpoiled => exact ran_completed (atFrameEnd_leavesQueue fun _ => by simp) s
  | lineFault => exact ran_completed (eighthBadOp_leavesQueue _) s
  | ownSilence => exact ran_completed (ownSilenceOp_leavesQueue _) s
  -- frames for the share unit and the mark board
  | claim | evict | presence | mark => exact ran_completed (takeShared_leavesQueue _ _ fun _ => by simp) s
  | otherKindTaken src => exact ran_completed (fun u => pending_ite (takeFrame_leavesQueue src .id u) rfl) s
  -- requests
  | setup => exact ran_completed (takeRequest_leavesQueue _ _ (handleSetup_leavesQueue _ _ _ _)) s
  | stepLoad => exact ran_completed (takeRequest_leavesQueue _ _ (handleLoad_leavesQueue _ _ _ _)) s
  | start => exact ran_completed (takeStart_leavesQueue _ _ _) s
  | pause => exact ran_completed (takeCommand_leavesQueue _ _ pauseAct_leavesQueue) s
  | resume => exact ran_completed (takeCommand_leavesQueue _ _ resumeAct_leavesQueue) s
  | abort => exact ran_completed (takeCommand_leavesQueue _ _ abortAct_leavesQueue) s
  | skip => exact ran_completed (takeCommand_leavesQueue _ _ skipAct_leavesQueue) s
  | confirm => exact ran_completed (takeCommand_leavesQueue _ _ confirmAct_leavesQueue) s
  | clear => exact ran_completed (takeCommand_leavesQueue _ _ clearAct_leavesQueue) s
  | tare => exact ran_completed (takeCommand_leavesQueue _ _ tareAct_leavesQueue) s
  | openSlot => exact ran_completed (takeCommand_leavesQueue _ _ (openSlotAct_leavesQueue _)) s
  | closeSlot => exact ran_completed (takeCommand_leavesQueue _ _ (closeSlotAct_leavesQueue _)) s
  | restart => exact ran_completed (takeCommand_leavesQueue _ _ fun _ => rfl) s
  | unknownCommand src dst code =>
    change Completed s (execUnknownCommand src dst code s)
    exact ran_completed (fun u => pending_ite rfl (takeCommand_leavesQueue src dst (fun _ => rfl) u)) s
  -- queries
  | status => exact ran_completed (takeRequest_leavesQueue _ _ fun _ => by simp [statusReply]) s
  | sample | row | slot | step | journal | marks => exact ran_completed (takeQuery_leavesQueue _ _ _) s
  | unknownItem src dst item index =>
    change Completed s (execUnknownItem src dst item index s)
    exact ran_completed (fun u => pending_ite rfl
      (takeRequest_leavesQueue src dst (fun _ => by simp [unknownItemReply]) u)) s

/-- Settles O2: `exec_completed`, command by command, from what each operation leaves of the queue. -/
theorem everyCommandAnswersNext : Obligations.EveryCommandAnswersNext := exec_completed

/-- Settles O1: the step takes the front command off the queue before it runs it. -/
theorem stepRunsTheFrontCommand : Obligations.StepRunsTheFrontCommand := fun _ _ _ => step_cons rfl

end Sys2Proof.Machine
end
